-- ==== Sys2Proof/Word.lean ====
section
/-! DEFINITION. The operation word's type and the named enumerations of the spec
(30_encoding.md R80, R85, R86): one inductive per enumeration, so that a code the spec says
"never occurs" cannot be written. Their numeric codes stand in Sys2Proof/Decode.lean. -/

namespace Sys2Proof

/-- One operation word `op[7:0]` (30_encoding.md R80). -/
abbrev Byte := BitVec 8

/-- The operand `id` of the `BTN` operations: a 2-bit button identifier whose fourth value names
no button (30_encoding.md R82, R85; 40_debouncer.md R104). -/
inductive ButtonId where
  | up | down | mode | unrecognised
deriving DecidableEq, Repr

/-- One of the three physical buttons, the index of `BS` (10_state.md R21). -/
inductive Button where
  | up | down | mode
deriving DecidableEq, Repr

/-- A raw sample of a button pin (30_encoding.md R85). -/
inductive Sample where
  | released | pressed
deriving DecidableEq, Repr

/-- A static level of the output pin (30_encoding.md R85). -/
inductive Level where
  | low | high
deriving DecidableEq, Repr, Inhabited

/-- `not Low = High`, `not High = Low` (00_scope.md R10). -/
def Level.opposite : Level → Level
  | .low => .high
  | .high => .low

/-- GeneratorMode (10_state.md R25). -/
inductive GenMode where
  | manual | auto
deriving DecidableEq, Repr

/-- GeneratorState (10_state.md R26). -/
inductive GenState where
  | manualLow | manualHigh | slowAutoLow | slowAutoHigh | fastAuto
deriving DecidableEq, Repr

/-- Regime tag of a frequency level (41_frequency_table.md R121). -/
inductive Regime where
  | slowSoftware | fastHardware
deriving DecidableEq, Repr

/-- Indicator codes (10_state.md R32). -/
inductive Indicator where
  | off | manualRed | manualGreen | autoRed | autoGreen | autoYellow
deriving DecidableEq, Repr

/-- What the output pin carries (10_state.md R31): a static level, the free-running waveform, or
an unknown level left by a stopped waveform generator. -/
inductive OutValue where
  | low | high | wave | undef
deriving DecidableEq, Repr

/-- Which generation hardware runs (10_state.md R33). -/
inductive HalGen where
  | stopped | slow | fast
deriving DecidableEq, Repr

/-- The dispatcher's position in one iteration (10_state.md R30). -/
inductive Phase where
  | one | two | three
deriving DecidableEq, Repr

/-- FrequencyIndex, 0 to 11; 12 to 15 are not states of the block (10_state.md R27,
93_implementation_defined.md U2). -/
abbrev FreqIndex := Fin 12

/-- Who executes a word (00_scope.md R6). -/
inductive Agent where
  | loop | int | env
deriving DecidableEq, Repr

/-- The HAL event alphabet, the block's output encoding (30_encoding.md R86). -/
inductive HalEvent where
  | stopAllGeneration
  | configureSlowTimer (prescale reload : Nat)
  | configureFastPwm (prescale period duty : Nat)
  | writePin (lvl : Level)
  | setIndicator (code : Indicator)
  | delay (length : ℕ+)
deriving DecidableEq, Repr

/-- One atomic event of a run (00_scope.md R11): the reset, or one operation word of LOOP, INT or
ENV. -/
inductive Event where
  | reset
  | word (w : Byte)
deriving DecidableEq, Repr

end Sys2Proof
end

