-- ==== Sys2Proof/Config.lean ====
section
/-! DEFINITION. What an implementation fixes (00_scope.md R5): the parameters with a default as a
structure, and the OPEN parameters and free values as constants without a body, of which no proof
can see a value. -/

namespace Sys2Proof

/-- The generator operations a button action may call (43_dispatcher.md R174: "a replaceable
table"; the operations are those of 42_generator.md R140 to R148). -/
inductive GenOp where
  | init | toggleMode | setAuto | freqUp | freqDown | ovf | stop | stopFast
  | setManual (lvl : Level)
deriving DecidableEq, Repr

/-- The button-to-operation mapping: for each button the operation in Auto and in Manual mode
(43_dispatcher.md R174, decision D8). -/
structure ButtonTable where
  upAuto : GenOp
  upManual : GenOp
  downAuto : GenOp
  downManual : GenOp
  modeAuto : GenOp
  modeManual : GenOp
deriving DecidableEq, Repr

/-- The parameters with a default value (00_scope.md R5, decision D29; the button table, D8). The
defaults themselves are `Machine.params`. -/
structure Params where
  /-- `PRESS_THRESHOLD` -/
  pressThreshold : BitVec 8
  /-- `LONGPRESS_THRESHOLD` -/
  longPressThreshold : BitVec 8
  /-- `DIV_COUNT`, within the 8 bits of `G.ovfCount` -/
  divCount : BitVec 8
  /-- `DEFAULT_INDEX` -/
  defaultIndex : FreqIndex
  /-- the table of `Action(id)` -/
  buttonTable : ButtonTable
deriving DecidableEq, Repr

/-- `FT_PRESCALE[i]`, `i` in 0..11: OPEN (00_scope.md R5, 41_frequency_table.md R122). -/
opaque Config.ftPrescale : FreqIndex → Nat

/-- `FT_RELOAD[i]`: OPEN; only the five indices 0..4 are ever looked up (R122, R123). -/
opaque Config.ftReload : FreqIndex → Nat

/-- `FT_PERIOD[i]`: OPEN; only the seven indices 5..11 are ever looked up (R122, R123). -/
opaque Config.ftPeriod : FreqIndex → Nat

/-- `FT_DUTY[i]`: OPEN; only the seven indices 5..11 are ever looked up (R122, R123). -/
opaque Config.ftDuty : FreqIndex → Nat

/-- `PULSE_DELAY`, a positive duration in an unstated unit: OPEN (00_scope.md R5). -/
opaque Config.pulseDelay : ℕ+

/-- `TICK_PERIOD`, a positive duration in an unstated unit: OPEN (00_scope.md R5). No rule depends
on it (70_reset_and_hazards.md R237), so nothing in the model reads it. -/
opaque Config.tickPeriod : ℕ+

/-- FREE VALUE: the electrical level an observer finds on the pin at its `n`-th look while the
waveform generator drives it, or while its level is unknown (10_state.md R31,
93_implementation_defined.md section 2: "any value"). -/
opaque Config.freePinLevel : Nat → Level

end Sys2Proof
end

