-- ==== Sys2Proof/Machine/State.lean ====
section
/-! DEFINITION. The state of the block as plain data (10_state.md R20), its value at reset
(R37), and the reasons a step can stop. The field names are the spec's (00_scope.md R8). -/

namespace Sys2Proof.Machine

/-- One ButtonState record (10_state.md R21). -/
structure ButtonState where
  pressedCounter : BitVec 8
  pressed : Bool
  longPressed : Bool
  clicked : Bool
  lastPinState : Sample
deriving DecidableEq, Repr

/-- `BS[0]` Up, `BS[1]` Down, `BS[2]` Mode (10_state.md R21). -/
structure Buttons where
  up : ButtonState
  down : ButtonState
  mode : ButtonState
deriving DecidableEq, Repr

/-- The three event flags (10_state.md R24). -/
structure Flags where
  readButtons : Bool
  stopGenerator : Bool
  timer1Overflow : Bool
deriving DecidableEq, Repr

/-- The generator registers (10_state.md R25 to R28). -/
structure Gen where
  mode : GenMode
  state : GenState
  freqIndex : FreqIndex
  ovfCount : BitVec 8
deriving DecidableEq, Repr

/-- The block's image of the generation hardware (10_state.md R33). -/
structure Hal where
  gen : HalGen
  prescale : Nat
  value : Nat
  duty : Nat
  ovfIrqEn : Bool
deriving DecidableEq, Repr

/-- The state of the machine: the spec's tuple (10_state.md R20), and two fields of the model's
own, `events` and `booted` (log entries 1 and 2). -/
structure State where
  /-- `BS` -/
  bs : Buttons
  /-- `F` -/
  f : Flags
  /-- `G` -/
  g : Gen
  /-- `PHASE` -/
  phase : Phase
  /-- `OUT` -/
  out : OutValue
  /-- `IND` -/
  ind : Indicator
  /-- `HAL` -/
  hal : Hal
  /-- `PINS` -/
  pins : BitVec 3
  /-- `TRACE`, oldest first -/
  trace : List HalEvent
  /-- the model's own: the events the world still presents, next one first (00_scope.md R11,
  30_encoding.md R80, R89); when there is none the LOOP agent runs free (R90) -/
  events : List Event
  /-- the model's own: the boot sequence has finished (70_reset_and_hazards.md R221) -/
  booted : Bool
deriving DecidableEq, Repr

/-- The block has no fault of any kind (60_exceptions.md R190: "There is no exception
mechanism"; 93_implementation_defined.md: "`fault` is used nowhere"), so this type is empty. -/
inductive Fault
deriving DecidableEq, Repr

/-- Why an input is refused: it has no step and is no no-op (00_scope.md R9, `refuse`). -/
inductive Refusal where
  /-- An instruction without a meaning yet; raised by no arm of this model. Safe. -/
  | notModelled (mnemonic : String)
  /-- Raised by fetching a reserved word (30_encoding.md R84; 93_implementation_defined.md U1).
  Safe: the spec refuses it. -/
  | reservedWord (w : BitVec 8)
  /-- Raised by fetching an INT or ENV word before the boot sequence has finished
  (60_exceptions.md R207, 70_reset_and_hazards.md R221, 93_implementation_defined.md section 2;
  log entries 2, 3). Safe: the spec refuses it. -/
  | beforeBoot (w : BitVec 8)
  /-- Raised by `IRQ.OVF` while `HAL.ovfIrqEn = 0` (60_exceptions.md R194: "the event cannot
  occur: the model gives it no step"). Safe. -/
  | ovfIrqDisabled
  /-- Raised by a `WritePin` while `HAL.gen = Fast` (42_generator.md R134;
  93_implementation_defined.md U4, unreachable). Safe. -/
  | writePinWhileFast
deriving DecidableEq, Repr

/-- A ButtonState at reset (10_state.md R37). -/
def ButtonState.reset : ButtonState :=
  { pressedCounter := 0, pressed := false, longPressed := false, clicked := false
    lastPinState := .released }

/-- `HAL` at reset (10_state.md R37). -/
def Hal.reset : Hal :=
  { gen := .stopped, prescale := 0, value := 0, duty := 0, ovfIrqEn := false }

/-- The state right after reset (10_state.md R37). `PINS` is an input the reset does not touch; it
holds the start value a test takes "unless said otherwise", 0b000 (log entry 7). No event is
presented and the boot has not run (log entries 1, 2). -/
def State.reset : State where
  bs := { up := .reset, down := .reset, mode := .reset }
  f := { readButtons := false, stopGenerator := false, timer1Overflow := false }
  g := { mode := .manual, state := .manualLow, freqIndex := 0, ovfCount := 0 }
  phase := .one
  out := .low
  ind := .off
  hal := .reset
  pins := 0
  trace := []
  events := []
  booted := false

end Sys2Proof.Machine
end

