-- ==== Sys2Proof/Machine/Ops.lean ====
section
/-! DEFINITION. The parameters' default values, sequencing of operations that may be refused, the
writes of single registers, and `emit`, the one way to the HAL (42_generator.md R130 to R136).

The block takes no exceptions (60_exceptions.md R190) and saves nothing on an interrupt (R199), so
there is no exception entry and no return to write down here. -/

namespace Sys2Proof.Machine

/-- The default button-to-operation table (43_dispatcher.md R174, decision D8). -/
def defaultButtonTable : ButtonTable where
  upAuto := .freqUp
  upManual := .setManual .high
  downAuto := .freqDown
  downManual := .setManual .low
  modeAuto := .toggleMode
  modeManual := .toggleMode

/-- The parameters at their defaults (00_scope.md R5; decisions D8, D29). -/
def params : Params where
  pressThreshold := 1
  longPressThreshold := 10
  divCount := 4
  defaultIndex := 1
  buttonTable := defaultButtonTable

/-- What an operation answers. -/
abbrev Result := Host.Outcome State Fault Refusal

/-- One operation complete before the next starts (00_scope.md R9). -/
def andThen (o : Result) (k : State → Result) : Result :=
  match o with
  | .next s => k s
  | .fault e => .fault e
  | .refused r => .refused r

/-! ## Register writes, `x <- v` (00_scope.md R8) -/

/-- Reads `BS[b]`. -/
def Buttons.get (bs : Buttons) : Button → ButtonState
  | .up => bs.up
  | .down => bs.down
  | .mode => bs.mode

/-- `BS[b] <- v`. -/
def Buttons.set (bs : Buttons) (b : Button) (v : ButtonState) : Buttons :=
  match b with
  | .up => { bs with up := v }
  | .down => { bs with down := v }
  | .mode => { bs with mode := v }

def State.setButton (s : State) (b : Button) (v : ButtonState) : State :=
  { s with bs := s.bs.set b v }

def State.setReadButtons (s : State) (v : Bool) : State :=
  { s with f := { s.f with readButtons := v } }

def State.setStopGenerator (s : State) (v : Bool) : State :=
  { s with f := { s.f with stopGenerator := v } }

def State.setTimer1Overflow (s : State) (v : Bool) : State :=
  { s with f := { s.f with timer1Overflow := v } }

def State.setMode (s : State) (v : GenMode) : State :=
  { s with g := { s.g with mode := v } }

def State.setGenState (s : State) (v : GenState) : State :=
  { s with g := { s.g with state := v } }

def State.setFreqIndex (s : State) (v : FreqIndex) : State :=
  { s with g := { s.g with freqIndex := v } }

def State.setOvfCount (s : State) (v : BitVec 8) : State :=
  { s with g := { s.g with ovfCount := v } }

def State.setPhase (s : State) (v : Phase) : State := { s with phase := v }

def State.setPins (s : State) (v : BitVec 3) : State := { s with pins := v }

def State.setEvents (s : State) (v : List Event) : State := { s with events := v }

def State.setBooted (s : State) (v : Bool) : State := { s with booted := v }

/-! ## HAL events (42_generator.md R130 to R136) -/

/-- The pin level a `Level` writes (R134). -/
def outOfLevel : Level → OutValue
  | .low => .low
  | .high => .high

/-- "if OUT = Wave then OUT <- Undef" (R131, R132). -/
def releaseWave : OutValue → OutValue
  | .wave => .undef
  | o => o

/-- The effect of an event on `HAL` (R131, R132, R133). -/
def eventHal (e : HalEvent) (h : Hal) : Hal :=
  match e with
  | .stopAllGeneration => { h with gen := .stopped, ovfIrqEn := false }
  | .configureSlowTimer p r => { h with gen := .slow, prescale := p, value := r, ovfIrqEn := true }
  | .configureFastPwm p per d =>
    { h with ovfIrqEn := false, gen := .fast, prescale := p, value := per, duty := d }
  | .writePin _ | .setIndicator _ | .delay _ => h

/-- The effect of an event on `OUT` (R131 to R134). -/
def eventOut (e : HalEvent) (o : OutValue) : OutValue :=
  match e with
  | .stopAllGeneration | .configureSlowTimer _ _ => releaseWave o
  | .configureFastPwm _ _ _ => .wave
  | .writePin lvl => outOfLevel lvl
  | .setIndicator _ | .delay _ => o

/-- The effect of an event on `IND` (R135). -/
def eventInd (e : HalEvent) (c : Indicator) : Indicator :=
  match e with
  | .setIndicator code => code
  | .stopAllGeneration | .configureSlowTimer _ _ | .configureFastPwm _ _ _ => c
  | .writePin _ | .delay _ => c

/-- The state after one emitted event: appended to `TRACE`, then applied (R130). -/
def State.emitted (s : State) (e : HalEvent) : State :=
  { s with
    hal := eventHal e s.hal
    out := eventOut e s.out
    ind := eventInd e s.ind
    trace := s.trace ++ [e] }

/-- The combination the spec gives no meaning: a pin write while the waveform generator owns the
pin (R134; 93_implementation_defined.md U4). -/
def pinClash (e : HalEvent) (h : HalGen) : Bool :=
  match e, h with
  | .writePin _, .fast => true
  | _, _ => false

/-- `emit E` (R130). -/
def emit (e : HalEvent) (s : State) : Result :=
  if pinClash e s.hal.gen then .refused .writePinWhileFast else .next (s.emitted e)

/-- Several events, one at a time in order (R130). -/
def emitAll : List HalEvent → State → Result
  | [], s => .next s
  | e :: es, s => andThen (emit e s) (emitAll es)

end Sys2Proof.Machine
end

