-- ==== Sys2Proof/Machine/Flags.lean ====
section
/-! DEFINITION. What sets and clears the one-bit signals: the three latches of a button record
(40_debouncer.md R100 to R103) and the three event flags (10_state.md R24, 60_exceptions.md R193 to
R195). -/

namespace Sys2Proof.Machine

/-- A latch after a tick: it is set by the increment that makes the counter equal to the threshold,
and never cleared (40_debouncer.md R100 corner case b, R106). -/
def latchAt (old : Bool) (counter threshold : BitVec 8) : Bool := old || counter == threshold

/-- `clicked` after a `Released` sample: set when the counter lies in
`[PRESS_THRESHOLD, LONGPRESS_THRESHOLD)` (40_debouncer.md R100). -/
def clickedAfterRelease (p : Params) (old : Bool) (counter : BitVec 8) : Bool :=
  old || (decide (p.pressThreshold ≤ counter) && decide (counter < p.longPressThreshold))

/-- `BS[b].pressed <- 0` (R101). -/
def clearPressed (b : Button) (s : State) : State :=
  s.setButton b { s.bs.get b with pressed := false }

/-- `BS[b].clicked <- 0` (R102). -/
def clearClicked (b : Button) (s : State) : State :=
  s.setButton b { s.bs.get b with clicked := false }

/-- `BS[b].longPressed <- 0` (R103). -/
def clearLongPressed (b : Button) (s : State) : State :=
  s.setButton b { s.bs.get b with longPressed := false }

/-- The `EventFlags` value: bit 0 `readButtons`, bit 1 `stopGenerator`, bit 2 `timer1Overflow`
(30_encoding.md R85). -/
def flagsCode (f : Flags) : BitVec 3 :=
  BitVec.ofBool f.timer1Overflow ++ BitVec.ofBool f.stopGenerator ++ BitVec.ofBool f.readButtons

end Sys2Proof.Machine
end

