-- ==== Sys2Proof/Syntax.lean ====
section
/-! DEFINITION. The instruction set: one constructor per row of the opcode map
(30_encoding.md R83, spec/opcode_table.json). -/

namespace Sys2Proof

/-- Every operation and every event of the block that has an operation word. -/
inductive Instr where
  /-- `BTN.UPDATE id, s` (40_debouncer.md R100) -/
  | btnUpdate (id : ButtonId) (smp : Sample)
  /-- `BTN.CLRP id` (R101) -/
  | btnClrP (id : ButtonId)
  /-- `BTN.CLRC id` (R102) -/
  | btnClrC (id : ButtonId)
  /-- `BTN.CLRL id` (R103) -/
  | btnClrL (id : ButtonId)
  /-- `GEN.INIT` (42_generator.md R140) -/
  | genInit
  /-- `GEN.TOGGLEMODE` (R141) -/
  | genToggleMode
  /-- `GEN.SETAUTO` (R142) -/
  | genSetAuto
  /-- `GEN.FREQUP` (R144) -/
  | genFreqUp
  /-- `GEN.FREQDOWN` (R145) -/
  | genFreqDown
  /-- `GEN.OVF` (R146) -/
  | genOvf
  /-- `GEN.STOP` (R147) -/
  | genStop
  /-- `GEN.STOPFAST` (R148) -/
  | genStopFast
  /-- `GEN.SETMANUAL lvl` (R143) -/
  | genSetManual (lvl : Level)
  /-- `DSP.STEP` (43_dispatcher.md R170) -/
  | dspStep
  /-- `IRQ.TICK` (60_exceptions.md R193) -/
  | irqTick
  /-- `IRQ.OVF` (R194) -/
  | irqOvf
  /-- `IRQ.HALT` (R195) -/
  | irqHalt
  /-- `PIN.SET pins` (R196) -/
  | pinSet (pins : BitVec 3)
deriving DecidableEq, Repr

end Sys2Proof
end

