-- ==== Sys2Proof/WellFormed.lean ====
section
/-! DEFINITION. What is well formed: which operation words are defined and which are reserved,
written from the list of 30_encoding.md R84 and not from the decoder; and the constraints of
00_scope.md R5 on the parameters. Every term of `Instr` is well formed, because its operand types
hold exactly the values their fields encode (R82, R85). -/

namespace Sys2Proof

/-- The reserved ranges `lo..hi`, as 30_encoding.md R84 lists them. -/
def reservedRanges : List (Nat × Nat) :=
  [(0x08, 0x0F), (0x14, 0x1F), (0x24, 0x2F), (0x34, 0x3F), (0x4A, 0x4F), (0x51, 0x5F),
   (0x63, 0x6F), (0x78, 0x7F), (0x80, 0xFF)]

/-- A word is reserved when it lies in one of the ranges of R84. -/
def reservedWord (w : Byte) : Bool :=
  reservedRanges.any fun r => decide (r.1 ≤ w.toNat) && decide (w.toNat ≤ r.2)

/-- A word is well formed when it is not reserved. -/
def wordWellFormed (w : Byte) : Bool := !reservedWord w

/-- Every instruction is well formed: there is no operand value its type admits and its encoding
does not (30_encoding.md R82; `id = 3` is a defined operand, R84). -/
def instrWellFormed : Instr → Bool
  | .btnUpdate _ _ | .btnClrP _ | .btnClrC _ | .btnClrL _ => true
  | .genInit | .genToggleMode | .genSetAuto | .genFreqUp | .genFreqDown => true
  | .genOvf | .genStop | .genStopFast | .genSetManual _ => true
  | .dspStep | .irqTick | .irqOvf | .irqHalt | .pinSet _ => true

/-- The constraints of 00_scope.md R5: `1 <= PRESS_THRESHOLD <= LONGPRESS_THRESHOLD` and
`DIV_COUNT >= 1`. The bounds 255 and `DEFAULT_INDEX < 12` are the fields' types. -/
def paramsWellFormed (p : Params) : Bool :=
  decide (1 ≤ p.pressThreshold) && decide (p.pressThreshold ≤ p.longPressThreshold) &&
    decide (1 ≤ p.divCount)

end Sys2Proof
end

