-- ==== Sys2Proof/Decode.lean ====
section
/-! DEFINITION. The codes of the enumerations (30_encoding.md R85), the decoder as the opcode map
(R83), and the encoder from the formats (R81). The decoder is total on any bytes and rejects by
name. -/

namespace Sys2Proof

/-! ## Operand fields (R82, R85) -/

/-- ButtonId from its two bits: 0 Up, 1 Down, 2 Mode, 3 unrecognised. -/
def buttonIdOfCode (c : BitVec 2) : ButtonId :=
  match c.toNat with
  | 0 => .up
  | 1 => .down
  | 2 => .mode
  | _ => .unrecognised

/-- The two bits of a ButtonId. -/
def buttonIdCode : ButtonId → BitVec 2
  | .up => 0
  | .down => 1
  | .mode => 2
  | .unrecognised => 3

/-- Sample from its bit: 1 Pressed, 0 Released. -/
def sampleOfBit (b : Bool) : Sample := if b then .pressed else .released

/-- The bit of a Sample. -/
def sampleCode : Sample → BitVec 1
  | .released => 0
  | .pressed => 1

/-- Level from its bit: 0 Low, 1 High. -/
def levelOfBit (b : Bool) : Level := if b then .high else .low

/-- The bit of a Level. -/
def levelCode : Level → BitVec 1
  | .low => 0
  | .high => 1

/-! ## Codes of the enumerations that are not operands (R85) -/

def genModeCode : GenMode → BitVec 1
  | .manual => 0
  | .auto => 1

def genStateCode : GenState → BitVec 3
  | .manualLow => 0
  | .manualHigh => 1
  | .slowAutoLow => 2
  | .slowAutoHigh => 3
  | .fastAuto => 4

def regimeCode : Regime → BitVec 1
  | .slowSoftware => 0
  | .fastHardware => 1

def indicatorCode : Indicator → BitVec 3
  | .off => 0
  | .manualRed => 1
  | .manualGreen => 2
  | .autoRed => 3
  | .autoGreen => 4
  | .autoYellow => 5

def outValueCode : OutValue → BitVec 2
  | .low => 0
  | .high => 1
  | .wave => 2
  | .undef => 3

def halGenCode : HalGen → BitVec 2
  | .stopped => 0
  | .slow => 1
  | .fast => 2

def phaseCode : Phase → BitVec 2
  | .one => 1
  | .two => 2
  | .three => 3

/-- FrequencyIndex as its 4-bit register (10_state.md R27). -/
def freqIndexCode (i : FreqIndex) : BitVec 4 := BitVec.ofNat 4 i.val

/-! ## The decoder -/

/-- Why the decoder answers "invalid". -/
inductive Reject where
  /-- no row of the opcode map selects the word (30_encoding.md R84) -/
  | reserved (w : Byte)
  /-- there is no byte to decode -/
  | noWord
deriving DecidableEq, Repr

/-- One row of the opcode map: a word `w` selects it when `w & mask = match` (R83). -/
structure OpRow where
  mnemonic : String
  matchBits : Byte
  mask : Byte
  build : Byte → Instr

/-- R83: "a word `w` selects the row when `w & mask = match`". -/
def rowSelects (r : OpRow) (w : Byte) : Bool := w &&& r.mask == r.matchBits

/-- Format B and C rows: `id = op[2:1]`, `s = op[0]`; `id = op[1:0]` (R81, R82). -/
def btnRows : List OpRow :=
  [⟨"BTN.UPDATE", 0x00, 0xF8, fun w =>
      .btnUpdate (buttonIdOfCode (w.extractLsb' 1 2)) (sampleOfBit (w.getLsbD 0))⟩,
   ⟨"BTN.CLRP", 0x10, 0xFC, fun w => .btnClrP (buttonIdOfCode (w.extractLsb' 0 2))⟩,
   ⟨"BTN.CLRC", 0x20, 0xFC, fun w => .btnClrC (buttonIdOfCode (w.extractLsb' 0 2))⟩,
   ⟨"BTN.CLRL", 0x30, 0xFC, fun w => .btnClrL (buttonIdOfCode (w.extractLsb' 0 2))⟩]

/-- Format G rows of major opcode 4, and the format L row with `lvl = op[0]`. -/
def genRows : List OpRow :=
  [⟨"GEN.INIT", 0x40, 0xFF, fun _ => .genInit⟩,
   ⟨"GEN.TOGGLEMODE", 0x41, 0xFF, fun _ => .genToggleMode⟩,
   ⟨"GEN.SETAUTO", 0x42, 0xFF, fun _ => .genSetAuto⟩,
   ⟨"GEN.FREQUP", 0x43, 0xFF, fun _ => .genFreqUp⟩,
   ⟨"GEN.FREQDOWN", 0x44, 0xFF, fun _ => .genFreqDown⟩,
   ⟨"GEN.OVF", 0x45, 0xFF, fun _ => .genOvf⟩,
   ⟨"GEN.STOP", 0x46, 0xFF, fun _ => .genStop⟩,
   ⟨"GEN.STOPFAST", 0x47, 0xFF, fun _ => .genStopFast⟩,
   ⟨"GEN.SETMANUAL", 0x48, 0xFE, fun w => .genSetManual (levelOfBit (w.getLsbD 0))⟩]

/-- Majors 5, 6 and 7: the dispatcher, the interrupt events, and format P with
`pins = op[2:0]`. -/
def eventRows : List OpRow :=
  [⟨"DSP.STEP", 0x50, 0xFF, fun _ => .dspStep⟩,
   ⟨"IRQ.TICK", 0x60, 0xFF, fun _ => .irqTick⟩,
   ⟨"IRQ.OVF", 0x61, 0xFF, fun _ => .irqOvf⟩,
   ⟨"IRQ.HALT", 0x62, 0xFF, fun _ => .irqHalt⟩,
   ⟨"PIN.SET", 0x70, 0xF8, fun w => .pinSet (w.extractLsb' 0 3)⟩]

/-- The opcode map (30_encoding.md R83). -/
def opRows : List OpRow := btnRows ++ genRows ++ eventRows

/-- The meaning of one operation word, or the name of its rejection. -/
def decodeWord (w : Byte) : Except Reject Instr :=
  match opRows.find? (fun r => rowSelects r w) with
  | some r => .ok (r.build w)
  | none => .error (.reserved w)

/-- Decoding a stream of bytes: every instruction is one byte (R80: "There is one length"). -/
def decode : List Byte → Except Reject (Instr × List Byte)
  | [] => .error .noWord
  | w :: rest =>
    match decodeWord w with
    | .ok i => .ok (i, rest)
    | .error e => .error e

/-! ## The encoder (R81) -/

/-- The operation word of an instruction, from the format of its row. -/
def encode : Instr → Byte
  | .btnUpdate id smp => 0x0#4 ++ 0#1 ++ buttonIdCode id ++ sampleCode smp
  | .btnClrP id => 0x1#4 ++ 0#2 ++ buttonIdCode id
  | .btnClrC id => 0x2#4 ++ 0#2 ++ buttonIdCode id
  | .btnClrL id => 0x3#4 ++ 0#2 ++ buttonIdCode id
  | .genInit => 0x4#4 ++ 0x0#4
  | .genToggleMode => 0x4#4 ++ 0x1#4
  | .genSetAuto => 0x4#4 ++ 0x2#4
  | .genFreqUp => 0x4#4 ++ 0x3#4
  | .genFreqDown => 0x4#4 ++ 0x4#4
  | .genOvf => 0x4#4 ++ 0x5#4
  | .genStop => 0x4#4 ++ 0x6#4
  | .genStopFast => 0x4#4 ++ 0x7#4
  | .genSetManual lvl => 0x4#4 ++ 0b100#3 ++ levelCode lvl
  | .dspStep => 0x5#4 ++ 0x0#4
  | .irqTick => 0x6#4 ++ 0x0#4
  | .irqOvf => 0x6#4 ++ 0x1#4
  | .irqHalt => 0x6#4 ++ 0x2#4
  | .pinSet pins => 0x7#4 ++ 0#1 ++ pins

/-- The mnemonic of an instruction's row (R83). -/
def mnemonicOf : Instr → String
  | .btnUpdate _ _ => "BTN.UPDATE"
  | .btnClrP _ => "BTN.CLRP"
  | .btnClrC _ => "BTN.CLRC"
  | .btnClrL _ => "BTN.CLRL"
  | .genInit => "GEN.INIT"
  | .genToggleMode => "GEN.TOGGLEMODE"
  | .genSetAuto => "GEN.SETAUTO"
  | .genFreqUp => "GEN.FREQUP"
  | .genFreqDown => "GEN.FREQDOWN"
  | .genOvf => "GEN.OVF"
  | .genStop => "GEN.STOP"
  | .genStopFast => "GEN.STOPFAST"
  | .genSetManual _ => "GEN.SETMANUAL"
  | .dspStep => "DSP.STEP"
  | .irqTick => "IRQ.TICK"
  | .irqOvf => "IRQ.OVF"
  | .irqHalt => "IRQ.HALT"
  | .pinSet _ => "PIN.SET"

/-- The agent that executes a word (R83's column). `GEN.STOPFAST` is "LOOP or INT": as a word it is
a direct issue of the LOOP agent, and the INT agent runs it only inside `IRQ.HALT`
(30_encoding.md R89, R90; 42_generator.md R148). -/
def agentOf : Instr → Agent
  | .irqTick | .irqOvf | .irqHalt => .int
  | .pinSet _ => .env
  | .btnUpdate _ _ | .btnClrP _ | .btnClrC _ | .btnClrL _ => .loop
  | .genInit | .genToggleMode | .genSetAuto | .genFreqUp | .genFreqDown => .loop
  | .genOvf | .genStop | .genStopFast | .genSetManual _ | .dspStep => .loop

/-! ## The table's word numbering -/

/-- The bytes of an instruction whose bits are `w`, first byte least significant. -/
def tableBytes (nbits w : Nat) : List Byte :=
  (List.range (nbits / 8)).map fun k => BitVec.ofNat 8 (w >>> (8 * k))

/-- The instruction the decoder reads from the bits of an opcode-table row. -/
def decodeTableWord (nbits w : Nat) : Option Instr :=
  match decode (tableBytes nbits w) with
  | .ok (i, []) => some i
  | _ => none

end Sys2Proof
end

