-- ==== Sys2Proof/Machine/Operands.lean ====
section
/-! DEFINITION. The operand forms: the button an identifier selects, and the sample a bit of
`PINS` is (30_encoding.md R82; 10_state.md R35). -/

namespace Sys2Proof.Machine

/-- The button an identifier selects; `id = 3` selects none (20_memory.md R61,
40_debouncer.md R104). -/
def buttonOf : ButtonId → Option Button
  | .up => some .up
  | .down => some .down
  | .mode => some .mode
  | .unrecognised => none

/-- The identifier the dispatcher uses for a button (43_dispatcher.md R173). -/
def idOf : Button → ButtonId
  | .up => .up
  | .down => .down
  | .mode => .mode

/-- The bit of `PINS` that holds a button's raw sample (10_state.md R35). -/
def pinBit : Button → Nat
  | .up => 0
  | .down => 1
  | .mode => 2

/-- The raw sample of a button in a 3-bit sample of the pins (43_dispatcher.md R173). -/
def sampleOf (pins : BitVec 3) (b : Button) : Sample := sampleOfBit (pins.getLsbD (pinBit b))

/-- The operation a button's action calls in a mode (43_dispatcher.md R174). -/
def actionOp (t : ButtonTable) (b : Button) (m : GenMode) : GenOp :=
  match b, m with
  | .up, .auto => t.upAuto
  | .up, .manual => t.upManual
  | .down, .auto => t.downAuto
  | .down, .manual => t.downManual
  | .mode, .auto => t.modeAuto
  | .mode, .manual => t.modeManual

end Sys2Proof.Machine
end

