-- ==== Sys2Proof/Machine/Buttons.lean ====
section
/-! DEFINITION. The button debouncer's operations (40_debouncer.md). -/

namespace Sys2Proof.Machine

/-- One `Pressed` sample on a record (R100): the counter saturates at `LONGPRESS_THRESHOLD`, the two
comparisons read the incremented value. -/
def pressRecord (p : Params) (r : ButtonState) : ButtonState :=
  if r.pressedCounter < p.longPressThreshold then
    { r with
      pressedCounter := r.pressedCounter + 1
      pressed := latchAt r.pressed (r.pressedCounter + 1) p.pressThreshold
      longPressed := latchAt r.longPressed (r.pressedCounter + 1) p.longPressThreshold
      lastPinState := .pressed }
  else { r with lastPinState := .pressed }

/-- One `Released` sample on a record (R100). -/
def releaseRecord (p : Params) (r : ButtonState) : ButtonState :=
  { r with
    clicked := clickedAfterRelease p r.clicked r.pressedCounter
    pressedCounter := 0
    lastPinState := .released }

/-- One raw sample on a record (R100). -/
def updateRecord (p : Params) (smp : Sample) (r : ButtonState) : ButtonState :=
  match smp with
  | .pressed => pressRecord p r
  | .released => releaseRecord p r

/-- `BTN.UPDATE` of a recognised button. -/
def updateButton (p : Params) (b : Button) (smp : Sample) (s : State) : State :=
  s.setButton b (updateRecord p smp (s.bs.get b))

/-- An operation on the button an identifier selects; with `id = 3` nothing happens (R104). -/
def onButton (id : ButtonId) (op : Button → State → State) (s : State) : State :=
  match buttonOf id with
  | some b => op b s
  | none => s

/-- `BTN.UPDATE id, s` (R100). -/
def execBtnUpdate (id : ButtonId) (smp : Sample) (s : State) : Result :=
  .next (onButton id (fun b => updateButton params b smp) s)

/-- `BTN.CLRP id` (R101). -/
def execBtnClrP (id : ButtonId) (s : State) : Result := .next (onButton id clearPressed s)

/-- `BTN.CLRC id` (R102). -/
def execBtnClrC (id : ButtonId) (s : State) : Result := .next (onButton id clearClicked s)

/-- `BTN.CLRL id` (R103). -/
def execBtnClrL (id : ButtonId) (s : State) : Result := .next (onButton id clearLongPressed s)

end Sys2Proof.Machine
end

