-- ==== Sys2Proof/Machine/FreqTable.lean ====
section
/-! DEFINITION. The frequency table, a constant (41_frequency_table.md). -/

namespace Sys2Proof.Machine

/-- `SLOW_MAX_INDEX` (00_scope.md R5). -/
def slowMaxIndex : FreqIndex := 4

/-- `DIV_INDEX`, the sub-divided level (R125 a). -/
def divIndex : FreqIndex := 0

/-- `YELLOW_ABOVE_INDEX` (R125 b). -/
def yellowAboveIndex : FreqIndex := 2

/-- The record a lookup answers (R123): the regime tag with the parameters that regime has; `value`
is the reload of a slow level and the period of a fast one, and only a fast level has a duty. -/
inductive RegimeConfig where
  | slow (prescale reload : Nat)
  | fast (prescale period duty : Nat)
deriving DecidableEq, Repr

/-- `regime(i)` (R121). -/
def regimeOf (i : FreqIndex) : Regime :=
  if i ≤ slowMaxIndex then .slowSoftware else .fastHardware

/-- `FT[i]` (R123); the numbers are the OPEN parameters (R122). -/
def lookup (i : FreqIndex) : RegimeConfig :=
  match regimeOf i with
  | .slowSoftware => .slow (Config.ftPrescale i) (Config.ftReload i)
  | .fastHardware => .fast (Config.ftPrescale i) (Config.ftPeriod i) (Config.ftDuty i)

/-- The tag of a looked-up record. -/
def RegimeConfig.regime : RegimeConfig → Regime
  | .slow _ _ => .slowSoftware
  | .fast _ _ _ => .fastHardware

/-- The nominal frequencies in millihertz (R120): 0.5 Hz, 2 Hz, 10 Hz, 50 Hz, 200 Hz, 1 kHz, 5 kHz,
20 kHz, 100 kHz, 500 kHz, 1 MHz, 2 MHz. -/
def nominalMilliHertzTable : List Nat :=
  [500, 2000, 10000, 50000, 200000, 1000000, 5000000, 20000000, 100000000, 500000000,
   1000000000, 2000000000]

/-- The nominal frequency of a level, in millihertz (R120). -/
def nominalMilliHertz (i : FreqIndex) : Nat := nominalMilliHertzTable.getD i.val 0

/-- Overflows per toggle at a slow level: `DIV_COUNT` at the sub-divided level, else one (R125 a). -/
def overflowsPerToggle (p : Params) (i : FreqIndex) : Nat :=
  if i = divIndex then p.divCount.toNat else 1

/-- The overflow rate a slow level's nominal frequency implies, in millihertz: two toggles a period
(R126, a note no rule depends on; no operation reads it). -/
def impliedOverflowMilliHertz (p : Params) (i : FreqIndex) : Nat :=
  nominalMilliHertz i * 2 * overflowsPerToggle p i

/-- The index one up, none past the last (42_generator.md R144: "clamped at table bounds"). -/
def indexUp (i : FreqIndex) : Option FreqIndex :=
  if h : i.val + 1 < 12 then some ⟨i.val + 1, h⟩ else none

/-- The index one down, none past the first (R145). -/
def indexDown (i : FreqIndex) : Option FreqIndex :=
  match i with
  | ⟨0, _⟩ => none
  | ⟨k + 1, h⟩ => some ⟨k, Nat.lt_of_succ_lt h⟩

end Sys2Proof.Machine
end

