-- ==== Sys2Proof/Machine/Generator.lean ====
section
/-! DEFINITION. The generator's internal procedures and its nine operations (42_generator.md R137 to
R148), each in the order of its pseudocode, over any parameters; and the meanings of the `GEN.*`
words at the default parameters. -/

namespace Sys2Proof.Machine

/-! ## Internal procedures -/

/-- The events that program a looked-up configuration (R137). -/
def configEvents : RegimeConfig → List HalEvent
  | .slow prescale reload => [.configureSlowTimer prescale reload]
  | .fast prescale period duty => [.configureFastPwm prescale period duty, .setIndicator .autoYellow]

/-- `Reconfigure()` (R137). A lookup has one of the two regimes, so the spec's third branch does not
arise (decision D31). -/
def reconfigure (s : State) : Result :=
  match s.g.mode with
  | .manual => emit .stopAllGeneration s
  | .auto => emitAll (configEvents (lookup s.g.freqIndex)) (s.setOvfCount 0)

/-- The colour of a slow toggle: AutoYellow above `YELLOW_ABOVE_INDEX`, else the level's (R138). -/
def toggleColour (i : FreqIndex) (lvl : Level) : Indicator :=
  if yellowAboveIndex < i then .autoYellow
  else match lvl with
    | .high => .autoGreen
    | .low => .autoRed

/-- The state of an automatic level in the slow regime (R138). -/
def slowState : Level → GenState
  | .low => .slowAutoLow
  | .high => .slowAutoHigh

/-- One half of `SlowToggle()`: state, pin, indicator in this order (R138). -/
def toggleTo (lvl : Level) (s : State) : Result :=
  emitAll [.writePin lvl, .setIndicator (toggleColour s.g.freqIndex lvl)]
    (s.setGenState (slowState lvl))

/-- `SlowToggle()` (R138): from SlowAutoHigh low, from every other state high. -/
def slowToggle (s : State) : Result :=
  match s.g.state with
  | .slowAutoHigh => toggleTo .low s
  | .slowAutoLow | .manualLow | .manualHigh | .fastAuto => toggleTo .high s

/-- `AutoStep()` (R139). -/
def autoStep (s : State) : Result :=
  match (lookup s.g.freqIndex).regime with
  | .fastHardware => .next (s.setGenState .fastAuto)
  | .slowSoftware => slowToggle s

/-- The body shared by `init()` and `setAutoMode()`: Auto mode, the transitional ManualLow,
reconfiguration, one step (R140, R142). -/
def enterAuto (s : State) : Result :=
  andThen (reconfigure ((s.setMode .auto).setGenState .manualLow)) autoStep

/-- Whether `G.state`'s regime class differs from the index's (last line of R144 and R145). -/
def regimeMismatch (s : State) : Bool :=
  (s.g.state == .fastAuto) != ((lookup s.g.freqIndex).regime == .fastHardware)

/-- The last line of R144 and R145: one step when the regime class changed (decision D14). -/
def followRegime (s : State) : Result := if regimeMismatch s then autoStep s else .next s

/-- A frequency change to a given index, on which R144 and R145 agree. -/
def changeIndex (i : FreqIndex) (s : State) : Result :=
  andThen (reconfigure (s.setFreqIndex i)) followRegime

/-! ## The nine operations -/

/-- `GEN.INIT` (R140). -/
def genInit (p : Params) (s : State) : Result := enterAuto (s.setFreqIndex p.defaultIndex)

/-- `GEN.SETAUTO` (R142). -/
def genSetAuto (s : State) : Result :=
  match s.g.mode with
  | .auto => .next s
  | .manual => enterAuto s

/-- The colour of a manual level (R143). -/
def manualColour : Level → Indicator
  | .high => .manualGreen
  | .low => .manualRed

/-- The state of a manual level (R143). -/
def manualState : Level → GenState
  | .high => .manualHigh
  | .low => .manualLow

/-- The pulse's three events, when the requested level is the current state's (R143). -/
def pulseEvents (lvl : Level) (st : GenState) : List HalEvent :=
  if st = manualState lvl then
    [.writePin lvl.opposite, .setIndicator (manualColour lvl.opposite), .delay Config.pulseDelay]
  else []

/-- `GEN.SETMANUAL lvl` from Manual mode on: pulse if the level is the current one, then pin, state,
indicator (R143). -/
def settleManual (lvl : Level) (s : State) : Result :=
  andThen (emitAll (pulseEvents lvl s.g.state) s) fun t =>
    andThen (emit (.writePin lvl) t) fun u =>
      emit (.setIndicator (manualColour lvl)) (u.setGenState (manualState lvl))

/-- `GEN.SETMANUAL lvl` (R143). -/
def genSetManual (lvl : Level) (s : State) : Result :=
  match s.g.mode with
  | .auto => andThen (reconfigure (s.setMode .manual)) (settleManual lvl)
  | .manual => settleManual lvl s

/-- `GEN.TOGGLEMODE` (R141). -/
def genToggleMode (s : State) : Result :=
  match s.g.mode with
  | .auto => genSetManual .low s
  | .manual => genSetAuto s

/-- A frequency operation: no effect in Manual mode or past a table bound (R144, R145). -/
def stepIndex (neighbour : FreqIndex → Option FreqIndex) (s : State) : Result :=
  match s.g.mode with
  | .manual => .next s
  | .auto =>
    match neighbour s.g.freqIndex with
    | none => .next s
    | some i => changeIndex i s

/-- `GEN.FREQUP` (R144). -/
def genFreqUp (s : State) : Result := stepIndex indexUp s

/-- `GEN.FREQDOWN` (R145). -/
def genFreqDown (s : State) : Result := stepIndex indexDown s

/-- The count at `DIV_INDEX`: a toggle when `DIV_COUNT` is reached (R146). -/
def countOverflow (p : Params) (s : State) : Result :=
  if p.divCount ≤ s.g.ovfCount + 1 then slowToggle (s.setOvfCount 0)
  else .next (s.setOvfCount (s.g.ovfCount + 1))

/-- `GEN.OVF` (R146). -/
def genOvf (p : Params) (s : State) : Result :=
  match s.g.mode, (lookup s.g.freqIndex).regime with
  | .auto, .slowSoftware => if s.g.freqIndex = divIndex then countOverflow p s else slowToggle s
  | .auto, .fastHardware => .next s
  | .manual, _ => .next s

/-- `GEN.STOP` (R147). -/
def genStop (s : State) : Result :=
  andThen (emitAll [.stopAllGeneration, .writePin .low] s) fun t =>
    emit (.setIndicator .manualRed) ((t.setMode .manual).setGenState .manualLow)

/-- `GEN.STOPFAST` (R148). -/
def genStopFast (s : State) : Result := emitAll [.stopAllGeneration, .writePin .low] s

/-- The operation a button-table entry names (43_dispatcher.md R174). -/
def runGenOp (p : Params) : GenOp → State → Result
  | .init => genInit p
  | .toggleMode => genToggleMode
  | .setAuto => genSetAuto
  | .freqUp => genFreqUp
  | .freqDown => genFreqDown
  | .ovf => genOvf p
  | .stop => genStop
  | .stopFast => genStopFast
  | .setManual lvl => genSetManual lvl

/-! ## The meanings of the words -/

def execGenInit (s : State) : Result := genInit params s

def execGenToggleMode (s : State) : Result := genToggleMode s

def execGenSetAuto (s : State) : Result := genSetAuto s

def execGenFreqUp (s : State) : Result := genFreqUp s

def execGenFreqDown (s : State) : Result := genFreqDown s

def execGenOvf (s : State) : Result := genOvf params s

def execGenStop (s : State) : Result := genStop s

def execGenStopFast (s : State) : Result := genStopFast s

def execGenSetManual (lvl : Level) (s : State) : Result := genSetManual lvl s

end Sys2Proof.Machine
end

