-- ==== Sys2Proof/Machine/Dispatcher.lean ====
section
/-! DEFINITION. The event dispatcher (43_dispatcher.md): three steps, each of which reads its flag
when it runs (R177). -/

namespace Sys2Proof.Machine

/-- `Step1()` (R171): the callback comes before the clear, and a pending halt suppresses it. -/
def step1 (p : Params) (s : State) : Result :=
  if s.f.timer1Overflow then
    andThen (if s.f.stopGenerator then .next s else genOvf p s) fun t =>
      .next (t.setTimer1Overflow false)
  else .next s

/-- `Step2()` (R172): the clear comes before the call. -/
def step2 (s : State) : Result :=
  if s.f.stopGenerator then genStop (s.setStopGenerator false) else .next s

/-- `Action(b)` (R174): `G.mode` is read when the action runs. -/
def action (p : Params) (b : Button) (s : State) : Result :=
  runGenOp p (actionOp p.buttonTable b s.g.mode) s

/-- One turn of step 3's loop: act on a latched press, then clear the latch (R173). -/
def serveButton (p : Params) (b : Button) (s : State) : Result :=
  if (s.bs.get b).pressed then andThen (action p b s) fun t => .next (clearPressed b t)
  else .next s

/-- The three updates of step 3 from one sample of the pins (R173). -/
def sampleButtons (p : Params) (s : State) : State :=
  updateButton p .mode (sampleOf s.pins .mode)
    (updateButton p .down (sampleOf s.pins .down) (updateButton p .up (sampleOf s.pins .up) s))

/-- The three turns of step 3's loop, Up, Down, Mode (R173). -/
def serveButtons (p : Params) (s : State) : Result :=
  andThen (serveButton p .up s) fun t => andThen (serveButton p .down t) (serveButton p .mode)

/-- `Step3()` (R173). -/
def step3 (p : Params) (s : State) : Result :=
  if s.f.readButtons then serveButtons p (sampleButtons p (s.setReadButtons false)) else .next s

/-- `DSP.STEP` (R170). -/
def dspStep (p : Params) (s : State) : Result :=
  match s.phase with
  | .one => andThen (step1 p s) fun t => .next (t.setPhase .two)
  | .two => andThen (step2 s) fun t => .next (t.setPhase .three)
  | .three => andThen (step3 p s) fun t => .next (t.setPhase .one)

/-- The meaning of the word `DSP.STEP` at the default parameters. -/
def execDspStep (s : State) : Result := dspStep params s

end Sys2Proof.Machine
end

