-- ==== Sys2Proof/Machine/Interrupts.lean ====
section
/-! DEFINITION. The interrupt events and the environment's event (60_exceptions.md). Interrupt entry
saves and changes nothing else, and there is no return (R199, R200). -/

namespace Sys2Proof.Machine

/-- `IRQ.TICK` (R193): always enabled; a flag already set stays set (R197). -/
def execIrqTick (s : State) : Result := .next (s.setReadButtons true)

/-- `IRQ.OVF` (R194): enabled only while `HAL.ovfIrqEn = 1`. -/
def execIrqOvf (s : State) : Result :=
  if s.hal.ovfIrqEn then .next (s.setTimer1Overflow true) else .refused .ovfIrqDisabled

/-- `IRQ.HALT` (R195): the hardware stop first, the flag second. -/
def execIrqHalt (s : State) : Result :=
  andThen (genStopFast s) fun t => .next (t.setStopGenerator true)

/-- `PIN.SET pins` (R196). -/
def execPinSet (pins : BitVec 3) (s : State) : Result := .next (s.setPins pins)

end Sys2Proof.Machine
end

