-- ==== Sys2Proof/Machine/Dispatch.lean ====
section
/-! DEFINITION. The meaning of every instruction, one arm per row of the opcode map. -/

namespace Sys2Proof.Machine

def exec (i : Instr) (s : State) : Host.Outcome State Fault Refusal :=
  match i with
  | .btnUpdate id smp => Sys2Proof.Machine.execBtnUpdate id smp s
  | .btnClrP id => Sys2Proof.Machine.execBtnClrP id s
  | .btnClrC id => Sys2Proof.Machine.execBtnClrC id s
  | .btnClrL id => Sys2Proof.Machine.execBtnClrL id s
  | .genInit => Sys2Proof.Machine.execGenInit s
  | .genToggleMode => Sys2Proof.Machine.execGenToggleMode s
  | .genSetAuto => Sys2Proof.Machine.execGenSetAuto s
  | .genFreqUp => Sys2Proof.Machine.execGenFreqUp s
  | .genFreqDown => Sys2Proof.Machine.execGenFreqDown s
  | .genOvf => Sys2Proof.Machine.execGenOvf s
  | .genStop => Sys2Proof.Machine.execGenStop s
  | .genStopFast => Sys2Proof.Machine.execGenStopFast s
  | .genSetManual lvl => Sys2Proof.Machine.execGenSetManual lvl s
  | .dspStep => Sys2Proof.Machine.execDspStep s
  | .irqTick => Sys2Proof.Machine.execIrqTick s
  | .irqOvf => Sys2Proof.Machine.execIrqOvf s
  | .irqHalt => Sys2Proof.Machine.execIrqHalt s
  | .pinSet pins => Sys2Proof.Machine.execPinSet pins s

end Sys2Proof.Machine
end

