-- ==== Sys2Proof/Machine/Fetch.lean ====
section
/-! DEFINITION. Which event the machine takes next, and what surrounds an instruction's own effect:
the presented events, the admission of INT and ENV events after boot, the free-running loop, and the
reset (00_scope.md R11; 30_encoding.md R89, R90; 70_reset_and_hazards.md R220, R221). -/

namespace Sys2Proof.Machine

/-- What comes next. -/
inductive Fetched where
  /-- run this instruction from this state -/
  | run (i : Instr) (s : State)
  /-- the event is the reset, taken in this state -/
  | reset (s : State)
  /-- the event has no step -/
  | refuse (r : Refusal)
deriving DecidableEq, Repr

/-- The word the LOOP agent issues when no event is presented: `GEN.INIT` once after reset, then
`DSP.STEP` for ever (R90, R221). -/
def freeRunning (s : State) : Instr := if s.booted then .dspStep else .genInit

/-- `BOOT` is one atomic event, inside which nothing from outside the loop falls
(70_reset_and_hazards.md R221): an INT or ENV event before it has finished is refused
(60_exceptions.md R207, 93_implementation_defined.md section 2; log entries 2, 3). -/
def admitted (i : Instr) (s : State) : Bool := agentOf i == .loop || s.booted

/-- A presented operation word: refused if reserved (30_encoding.md R84) or not admitted. -/
def fetchWord (w : Byte) (s : State) : Fetched :=
  match decode [w] with
  | .error _ => .refuse (.reservedWord w)
  | .ok (i, _) => if admitted i s then .run i s else .refuse (.beforeBoot w)

/-- The next event: the first presented one, or the loop's own next word. -/
def fetch (s : State) : Fetched :=
  match s.events with
  | [] => .run (freeRunning s) s
  | .reset :: rest => .reset (s.setEvents rest)
  | .word w :: rest => fetchWord w (s.setEvents rest)

/-- After an instruction: `GEN.INIT` completes the boot sequence (R221). -/
def afterInstr (i : Instr) (s : State) : State :=
  match i with
  | .genInit => s.setBooted true
  | .btnUpdate _ _ | .btnClrP _ | .btnClrC _ | .btnClrL _ | .genToggleMode | .genSetAuto
  | .genFreqUp | .genFreqDown | .genOvf | .genStop | .genStopFast | .genSetManual _ | .dspStep
  | .irqTick | .irqOvf | .irqHalt | .pinSet _ => s

/-- The reset event (R220, 10_state.md R37): every register at its reset value, `TRACE` empty, no
HAL event; `PINS` and the events still to come belong to the world and stay. -/
def resetEvent (s : State) : State :=
  (State.reset.setPins s.pins).setEvents s.events

/-- A state in which the given words are presented next. An INT or ENV word can be presented only
after boot (R221), so for one of those the boot counts as done (log entry 4). -/
def presentWords (ws : List Byte) (s : State) : State :=
  let outside := ws.any fun w =>
    match decode [w] with
    | .ok (i, _) => agentOf i != .loop
    | .error _ => false
  (s.setEvents (ws.map .word ++ s.events)).setBooted (s.booted || outside)

end Sys2Proof.Machine
end

