-- ==== Sys2Proof/Machine/Step.lean ====
section
/-! DEFINITION. One step of the machine: one atomic event of the run (00_scope.md R11,
20_memory.md R67). -/

namespace Sys2Proof.Machine

/-- One event: the next presented one, or the free-running loop's next word. -/
def step (s : State) : Host.Outcome State Fault Refusal :=
  match fetch s with
  | .run i t => andThen (exec i t) fun u => .next (afterInstr i u)
  | .reset t => .next (resetEvent t)
  | .refuse r => .refused r

/-- `s` with the instruction whose bits are `w` presented as the next event, so that `step` runs
exactly it. -/
def State.withFetchWord (s : State) (nbits w : Nat) : State := presentWords (tableBytes nbits w) s

end Sys2Proof.Machine
end

