-- ==== Sys2Proof/Machine/Assembly.lean ====
section
/-! DEFINITION. The assembler syntax (30_encoding.md R87) and the pseudo-operations with their
expansions (R88): from lines of text to the events of a run, and from an instruction to its text. -/

namespace Sys2Proof.Machine

/-! ## Pseudo-operations (R88) -/

/-- An instruction as the event that presents it. -/
def wordEvent (i : Instr) : Event := .word (encode i)

/-- `DSP.ITER`: one loop iteration. -/
def dspIter : List Event := [wordEvent .dspStep, wordEvent .dspStep, wordEvent .dspStep]

/-- `TICK pins`: one sampling tick, consumed at once. -/
def tick (pins : BitVec 3) : List Event :=
  wordEvent (.pinSet pins) :: wordEvent .irqTick :: dspIter

/-- `HOLD pins, n`: `TICK pins` repeated `n` times. -/
def hold (pins : BitVec 3) : Nat → List Event
  | 0 => []
  | n + 1 => tick pins ++ hold pins n

/-- `BOOT`: the boot sequence of 70_reset_and_hazards.md R221. -/
def boot : List Event := [.reset, wordEvent .genInit]

/-! ## Tokens -/

/-- The pieces of a line. -/
inductive Token where
  | name (cs : List Char)
  | comma
  | openSet
  | closeSet
deriving DecidableEq, Repr

/-- Puts a character in front of the token that follows it, if that is a name it belongs to. -/
def consChar (c : Char) (glue : Bool) (ts : List Token) : List Token :=
  match glue, ts with
  | true, .name cs :: rest => .name (c :: cs) :: rest
  | _, _ => .name [c] :: ts

/-- A character that stands inside a name or a number. -/
def isNameChar (c : Char) : Bool :=
  !(c == ' ' || c == '\t' || c == ',' || c == ';' || c.toNat == 123 || c.toNat == 125)

/-- Splits a line into tokens; a comment starts with `;` (R87). Characters 123 and 125 are the
braces of a set of names. -/
def tokens : List Char → List Token
  | [] => []
  | c :: cs =>
    if c == ';' then []
    else if c == ' ' || c == '\t' then tokens cs
    else if c == ',' then .comma :: tokens cs
    else if c.toNat == 123 then .openSet :: tokens cs
    else if c.toNat == 125 then .closeSet :: tokens cs
    else consChar c (match cs with | d :: _ => isNameChar d | [] => false) (tokens cs)

/-! ## Operands, "by name or by number" (R87) -/

/-- The digits of the bases 2, 10 and 16, each at the place of its value. -/
def digitNames : List Char := "0123456789ABCDEF".toList

/-- A number's value in a base, its digits in either case and the last one first. -/
def reversedValue (base : Nat) : List Char → Option Nat
  | [] => some 0
  | c :: higher =>
    match (digitNames.take base).idxOf? c.toUpper, reversedValue base higher with
    | some low, some high => some (high * base + low)
    | _, _ => none

/-- A number: `0b101`, `0x4A` (00_scope.md R7) or decimal. -/
def number : List Char → Option Nat
  | '0' :: 'b' :: c :: cs => reversedValue 2 (c :: cs).reverse
  | '0' :: 'x' :: c :: cs => reversedValue 16 (c :: cs).reverse
  | c :: cs => reversedValue 10 (c :: cs).reverse
  | [] => none

/-- A number below a bound. -/
def numberBelow (bound : Nat) (cs : List Char) : Option Nat :=
  match number cs with
  | some n => if n < bound then some n else none
  | none => none

/-- A button identifier. -/
def parseId (cs : List Char) : Option ButtonId :=
  if cs = "Up".toList then some .up
  else if cs = "Down".toList then some .down
  else if cs = "Mode".toList then some .mode
  else (numberBelow 4 cs).map fun n => buttonIdOfCode (BitVec.ofNat 2 n)

/-- A sample. -/
def parseSample (cs : List Char) : Option Sample :=
  if cs = "Pressed".toList then some .pressed
  else if cs = "Released".toList then some .released
  else (numberBelow 2 cs).map fun n => sampleOfBit (n == 1)

/-- A level. -/
def parseLevel (cs : List Char) : Option Level :=
  if cs = "High".toList then some .high
  else if cs = "Low".toList then some .low
  else (numberBelow 2 cs).map fun n => levelOfBit (n == 1)

/-- The bit of `PINS` a button's name stands for. -/
def pinMask (cs : List Char) : Option (BitVec 3) :=
  if cs = "Up".toList then some 1
  else if cs = "Down".toList then some 2
  else if cs = "Mode".toList then some 4
  else none

/-- The names of a non-empty set, up to its closing brace. -/
def parseNames : List Token → Option (BitVec 3 × List Token)
  | .name cs :: .closeSet :: rest => (pinMask cs).map fun m => (m, rest)
  | .name cs :: .comma :: rest =>
    match pinMask cs, parseNames rest with
    | some m, some (n, rest') => some (m ||| n, rest')
    | _, _ => none
  | _ => none

/-- The operand of `PIN.SET` and of the pseudo-operations: a number or a set of names. -/
def parsePins : List Token → Option (BitVec 3 × List Token)
  | .openSet :: .closeSet :: rest => some (0, rest)
  | .openSet :: rest => parseNames rest
  | .name cs :: rest => (numberBelow 8 cs).map fun n => (BitVec.ofNat 3 n, rest)
  | _ => none

/-! ## Lines -/

/-- The operations without an operand. -/
def plainInstrs : List Instr :=
  [.genInit, .genToggleMode, .genSetAuto, .genFreqUp, .genFreqDown, .genOvf, .genStop,
   .genStopFast, .dspStep, .irqTick, .irqOvf, .irqHalt]

/-- A line that is a mnemonic and nothing else. -/
def parsePlain (m : List Char) : Option (List Event) :=
  if m = "RESET".toList then some [.reset]
  else if m = "BOOT".toList then some boot
  else if m = "DSP.ITER".toList then some dspIter
  else (plainInstrs.find? fun i => m = (mnemonicOf i).toList).map fun i => [wordEvent i]

/-- A line whose one operand is a name or a number. -/
def parseUnary (m operand : List Char) : Option (List Event) :=
  if m = "BTN.CLRP".toList then (parseId operand).map fun id => [wordEvent (.btnClrP id)]
  else if m = "BTN.CLRC".toList then (parseId operand).map fun id => [wordEvent (.btnClrC id)]
  else if m = "BTN.CLRL".toList then (parseId operand).map fun id => [wordEvent (.btnClrL id)]
  else if m = "GEN.SETMANUAL".toList then
    (parseLevel operand).map fun lvl => [wordEvent (.genSetManual lvl)]
  else none

/-- `BTN.UPDATE id, s`. -/
def parseUpdate (id smp : List Char) : Option (List Event) :=
  match parseId id, parseSample smp with
  | some i, some x => some [wordEvent (.btnUpdate i x)]
  | _, _ => none

/-- A line whose first operand is a pin set. -/
def parsePinLine (m : List Char) (operands : List Token) : Option (List Event) :=
  match parsePins operands with
  | some (pins, []) =>
    if m = "PIN.SET".toList then some [wordEvent (.pinSet pins)]
    else if m = "TICK".toList then some (tick pins)
    else none
  | some (pins, [.comma, .name n]) =>
    if m = "HOLD".toList then (number n).map (hold pins) else none
  | _ => none

/-- One line of tokens: an empty line is no event. -/
def parseLine : List Token → Option (List Event)
  | [] => some []
  | [.name m] => parsePlain m
  | .name m :: operands =>
    match parsePinLine m operands with
    | some es => some es
    | none =>
      match operands with
      | [.name x] => parseUnary m x
      | [.name x, .comma, .name y] =>
        if m = "BTN.UPDATE".toList then parseUpdate x y else none
      | _ => none
  | _ => none

/-- One line of text (R87); none where it is not of the syntax. -/
def assembleLine (line : String) : Option (List Event) := parseLine (tokens line.toList)

/-- One operation per line (R87). -/
def assemble : List String → Option (List Event)
  | [] => some []
  | line :: later =>
    match assembleLine line, assemble later with
    | some es, some fs => some (es ++ fs)
    | _, _ => none

/-! ## Text -/

def idText : ButtonId → String
  | .up => "Up"
  | .down => "Down"
  | .mode => "Mode"
  | .unrecognised => "3"

def sampleText : Sample → String
  | .released => "Released"
  | .pressed => "Pressed"

def levelText : Level → String
  | .low => "Low"
  | .high => "High"

/-- The pins as a binary number, `0b101`. -/
def pinsText (pins : BitVec 3) : String :=
  "0b" ++ (if pins.getLsbD 2 then "1" else "0") ++ (if pins.getLsbD 1 then "1" else "0") ++
    (if pins.getLsbD 0 then "1" else "0")

/-- The operands of an instruction, by name where they have one. -/
def operandText : Instr → String
  | .btnUpdate id smp => " " ++ idText id ++ ", " ++ sampleText smp
  | .btnClrP id | .btnClrC id | .btnClrL id => " " ++ idText id
  | .genSetManual lvl => " " ++ levelText lvl
  | .pinSet pins => " " ++ pinsText pins
  | .genInit | .genToggleMode | .genSetAuto | .genFreqUp | .genFreqDown | .genOvf => ""
  | .genStop | .genStopFast | .dspStep | .irqTick | .irqOvf | .irqHalt => ""

/-- The line of an instruction (R87). -/
def disassemble (i : Instr) : String := mnemonicOf i ++ operandText i

end Sys2Proof.Machine
end

