-- ==== Sys2Proof/Machine/Run.lean ====
section
/-! DEFINITION. Runs: what finite and infinite sequences of atomic events do to the machine
(00_scope.md R11, 20_memory.md R67). At every moment the world may present one more event, so an
infinite sequence is a run of `step` although `State.events` holds finitely many events at a time
(log entry 1). -/

namespace Sys2Proof.Machine

/-- One atomic event: it is presented, and `step` applies it to completion (R67). -/
def takeEvent (e : Event) (s : State) : Result := step (s.setEvents (e :: s.events))

/-- Several events in their order, each complete before the next. -/
def takeEvents : List Event → State → Result
  | [], s => .next s
  | e :: es, s => andThen (takeEvent e s) (takeEvents es)

/-- Several steps of the machine as it stands. -/
def steps : Nat → State → Result
  | 0, s => .next s
  | n + 1, s => andThen (step s) (steps n)

/-- The events of a run: "a finite or infinite sequence of atomic events" (R11). -/
inductive EventSequence where
  | finite (es : List Event)
  | infinite (es : Nat → Event)

/-- The event at a place, none past a finite sequence's end. -/
def EventSequence.at? : EventSequence → Nat → Option Event
  | .finite es, n => es[n]?
  | .infinite es, n => some (es n)

/-- The first `n` events, or all where there are fewer. -/
def EventSequence.take : EventSequence → Nat → List Event
  | .finite es, n => es.take n
  | .infinite es, n => (List.range n).map es

/-- The state after the first `n` events of a sequence. -/
def afterEvents (r : EventSequence) (n : Nat) (s : State) : Result := takeEvents (r.take n) s

/-- A sequence is a run from a state when each of its events has its step. -/
def IsRun (r : EventSequence) (s : State) : Prop := ∀ n, ∃ t, afterEvents r n s = .next t

/-- The observable result of a run (R11): "the final value of every state element" of 10_state.md
"and the `TRACE`", that is, its last state without the model's own two fields. -/
def observed (s : State) : State := (s.setEvents []).setBooted false

end Sys2Proof.Machine
end

