-- ==== Sys2Proof/Machine/Ports.lean ====
section
/-! DEFINITION. The block's ports (30_encoding.md R89): the events the input ports carry and the
outputs as functions of the state. Nothing in the block reads this file. -/

namespace Sys2Proof.Machine

/-! ## Inputs -/

/-- A change of `btn_pins` (R89). -/
def pinEvent (pins : BitVec 3) : Event := .word (encode (.pinSet pins))

/-- One pulse of `irq_tick` (R89). -/
def tickEvent : Event := .word (encode .irqTick)

/-- One pulse of `irq_ovf` (R89). -/
def ovfEvent : Event := .word (encode .irqOvf)

/-- One asserting edge of the halt line (R89, 60_exceptions.md R195). -/
def haltEvent : Event := .word (encode .irqHalt)

/-- The levels `halt_n` goes through, from a level it had before (`true` = high): each high-to-low
edge is one event, a low level or a release is none (R89, R195, 70_reset_and_hazards.md R234). -/
def haltEvents (before : Bool) : List Bool → List Event
  | [] => []
  | now :: later =>
    if before && !now then haltEvent :: haltEvents now later else haltEvents now later

/-! ## Outputs -/

/-- `out_pin`: the register `OUT` as its code (R89, R85). -/
def outPort (s : State) : BitVec 2 := outValueCode s.out

/-- `indicator`: the register `IND` as its code (R89, R85). -/
def indicatorPort (s : State) : BitVec 3 := indicatorCode s.ind

/-- The three latches of one button, a third of the port `latches` (R89). -/
structure Latches where
  pressed : Bool
  clicked : Bool
  longPressed : Bool
deriving DecidableEq, Repr

/-- The latches of a button that the port `latches` shows (R89). -/
def latchesPort (b : Button) (s : State) : Latches :=
  { pressed := (s.bs.get b).pressed
    clicked := (s.bs.get b).clicked
    longPressed := (s.bs.get b).longPressed }

/-- The events a step appended to `TRACE`. -/
def emittedBetween (before after : State) : List HalEvent := after.trace.drop before.trace.length

/-- The events the port `hal_cmd` carries (R89). -/
def isHalCommand : HalEvent → Bool
  | .stopAllGeneration | .configureSlowTimer _ _ | .configureFastPwm _ _ _ | .delay _ => true
  | .writePin _ | .setIndicator _ => false

/-- The events that pulse `ind_strobe` (R89). -/
def isIndicatorWrite : HalEvent → Bool
  | .setIndicator _ => true
  | .stopAllGeneration | .configureSlowTimer _ _ | .configureFastPwm _ _ _ => false
  | .writePin _ | .delay _ => false

/-- `hal_cmd`: one event per strobe, in order (R89). -/
def halCommands (before after : State) : List HalEvent :=
  (emittedBetween before after).filter isHalCommand

/-- `ind_strobe`: how often it pulses in a step (R89). -/
def indicatorStrobes (before after : State) : Nat :=
  (emittedBetween before after).countP isIndicatorWrite

/-- The electrical level an observer finds on the pin at its `n`-th look: the static level, or a
FREE VALUE while the waveform generator drives the pin or has left it (10_state.md R31,
93_implementation_defined.md section 2; log entry 11). -/
def pinLevel (n : Nat) (s : State) : Level :=
  match s.out with
  | .low => .low
  | .high => .high
  | .wave | .undef => Config.freePinLevel n

end Sys2Proof.Machine
end

