-- ==== Sys2Proof/Safety.lean ====
section
/-! DEFINITION. What counts as a good state and a safe run: the invariants the spec states of the
whole machine, over any parameters, and which events may occur (00_scope.md R11, 20_memory.md R68,
60_exceptions.md R194, R207). -/

namespace Sys2Proof.Machine

/-! ## Invariants of the state -/

/-- 10_state.md R22 (a), (b) for one record. -/
abbrev RecordInv (p : Params) (r : ButtonState) : Prop :=
  r.pressedCounter ≤ p.longPressThreshold ∧ (0 < r.pressedCounter → r.lastPinState = .pressed)

/-- R22 for the three records. -/
abbrev ButtonsInv (p : Params) (s : State) : Prop :=
  RecordInv p s.bs.up ∧ RecordInv p s.bs.down ∧ RecordInv p s.bs.mode

/-- 10_state.md R29: mode, state and index agree. -/
abbrev ModeInv (s : State) : Prop :=
  (s.g.mode = .manual ↔ s.g.state = .manualLow ∨ s.g.state = .manualHigh) ∧
  (s.g.mode = .auto → s.g.freqIndex ≤ 4 → s.g.state = .slowAutoLow ∨ s.g.state = .slowAutoHigh) ∧
  (s.g.mode = .auto → 5 ≤ s.g.freqIndex → s.g.state = .fastAuto)

/-- 10_state.md R28 and 42_generator.md R150 (e): the sub-count is below `DIV_COUNT`, and non-zero
only at index 0. -/
abbrev CountInv (p : Params) (s : State) : Prop :=
  s.g.ovfCount < p.divCount ∧ (s.g.ovfCount ≠ 0 → s.g.freqIndex = 0)

/-- 10_state.md R33 and what is left of 42_generator.md R150 (b) to (d) in the halt window
(70_reset_and_hazards.md R228): hardware that runs, runs the present configuration. -/
abbrev HalInv (s : State) : Prop :=
  (s.hal.ovfIrqEn = true ↔ s.hal.gen = .slow) ∧
  (s.hal.gen = .slow → s.g.mode = .auto ∧ s.g.freqIndex ≤ 4 ∧
    s.hal.prescale = Config.ftPrescale s.g.freqIndex ∧
    s.hal.value = Config.ftReload s.g.freqIndex) ∧
  (s.hal.gen = .fast → s.g.mode = .auto ∧ 5 ≤ s.g.freqIndex ∧
    s.hal.prescale = Config.ftPrescale s.g.freqIndex ∧
    s.hal.value = Config.ftPeriod s.g.freqIndex ∧
    s.hal.duty = Config.ftDuty s.g.freqIndex ∧ s.ind = .autoYellow)

/-- 93_implementation_defined.md section 2: `OUT` is never `Undef` between operations, and `Wave`
exactly while the waveform generator runs. -/
abbrev OutInv (s : State) : Prop := s.out ≠ .undef ∧ (s.out = .wave ↔ s.hal.gen = .fast)

/-- 42_generator.md R150, its last sentences: the indicator in Manual mode. -/
abbrev IndInv (s : State) : Prop :=
  (s.g.state = .manualLow → s.ind = .manualRed ∨ s.ind = .off) ∧
  (s.g.state = .manualHigh → s.ind = .manualGreen)

/-- `HAL`, `OUT` and `IND` are what the events of `TRACE` make of their reset values
(42_generator.md R130; 10_state.md R31 to R34, R37), and no event shows `Off` (R135). -/
abbrev TraceInv (s : State) : Prop :=
  s.hal = s.trace.foldl (fun h e => eventHal e h) Hal.reset ∧
  s.out = s.trace.foldl (fun o e => eventOut e o) .low ∧
  s.ind = s.trace.foldl (fun c e => eventInd e c) .off ∧
  HalEvent.setIndicator .off ∉ s.trace

/-- The invariant of the block, for given parameters. -/
structure BlockInv (p : Params) (s : State) : Prop where
  buttons : ButtonsInv p s
  mode : ModeInv s
  count : CountInv p s
  hal : HalInv s
  out : OutInv s
  ind : IndInv s
  trace : TraceInv s

/-- 42_generator.md R150 (b) to (d): the hardware and the pin agree with the registers, as they do
outside the halt window. -/
abbrev Settled (s : State) : Prop :=
  (s.g.mode = .manual → s.hal.gen = .stopped ∧
    (s.g.state = .manualLow → s.out = .low) ∧ (s.g.state = .manualHigh → s.out = .high)) ∧
  (s.g.mode = .auto → s.g.freqIndex ≤ 4 → s.hal.gen = .slow ∧
    s.hal.prescale = Config.ftPrescale s.g.freqIndex ∧
    s.hal.value = Config.ftReload s.g.freqIndex ∧ s.hal.ovfIrqEn = true ∧
    (s.g.state = .slowAutoLow → s.out = .low) ∧ (s.g.state = .slowAutoHigh → s.out = .high)) ∧
  (s.g.mode = .auto → 5 ≤ s.g.freqIndex → s.hal.gen = .fast ∧
    s.hal.prescale = Config.ftPrescale s.g.freqIndex ∧
    s.hal.value = Config.ftPeriod s.g.freqIndex ∧ s.hal.duty = Config.ftDuty s.g.freqIndex ∧
    s.out = .wave ∧ s.ind = .autoYellow ∧ s.hal.ovfIrqEn = false)

/-! ## Events that may occur -/

/-- Whether an operation or event may occur in a state: an INT or ENV event needs the boot to have
finished (R207, R221, 93_implementation_defined.md section 2), `IRQ.OVF` also its enable (R194);
everything else may always (R68, R175). -/
def instrEnabled (i : Instr) (s : State) : Bool :=
  match i with
  | .irqTick | .irqHalt | .pinSet _ => s.booted
  | .irqOvf => s.booted && s.hal.ovfIrqEn
  | .btnUpdate _ _ | .btnClrP _ | .btnClrC _ | .btnClrL _ => true
  | .genInit | .genToggleMode | .genSetAuto | .genFreqUp | .genFreqDown | .genOvf => true
  | .genStop | .genStopFast | .genSetManual _ | .dspStep => true

/-- Whether an event may occur in a state; a reserved word never may (30_encoding.md R84). -/
def eventEnabled (e : Event) (s : State) : Bool :=
  match e with
  | .reset => true
  | .word w =>
    match decodeWord w with
    | .ok i => instrEnabled i s
    | .error _ => false

/-- A state whose next event may occur: the next presented one, or the free-running loop's. -/
def nextEnabled (s : State) : Bool :=
  match s.events with
  | [] => true
  | e :: _ => eventEnabled e s

/-- A step is safe when the machine goes on. -/
def StepSafe (s : State) : Prop := ∃ t, step s = .next t

end Sys2Proof.Machine
end

