-- ==== Sys2Proof/Certificates/Slice0/Obligations.lean ====
section
/-! DEFINITION. The statements for the provers, and the states and results they expect, written out
from the rules of spec/ and not from the model's operations. -/

namespace Sys2Proof.Expected

open Sys2Proof.Machine

/-! ## Expected states -/

/-- Auto mode entered at index `i` (42_generator.md R137 to R139 with `G.mode = Auto`,
`G.state = ManualLow`): a slow level goes high, a fast one belongs to the waveform generator. -/
def autoEntered (s : State) (i : FreqIndex) : State :=
  if i ≤ 4 then
    { s with
      g := { mode := .auto, state := .slowAutoHigh, freqIndex := i, ovfCount := 0 }
      hal :=
        { gen := .slow, prescale := Config.ftPrescale i, value := Config.ftReload i
          duty := s.hal.duty, ovfIrqEn := true }
      out := .high
      ind := if 2 < i then .autoYellow else .autoGreen
      trace := s.trace ++
        [.configureSlowTimer (Config.ftPrescale i) (Config.ftReload i), .writePin .high,
         .setIndicator (if 2 < i then .autoYellow else .autoGreen)] }
  else
    { s with
      g := { mode := .auto, state := .fastAuto, freqIndex := i, ovfCount := 0 }
      hal :=
        { gen := .fast, prescale := Config.ftPrescale i, value := Config.ftPeriod i
          duty := Config.ftDuty i, ovfIrqEn := false }
      out := .wave
      ind := .autoYellow
      trace := s.trace ++
        [.configureFastPwm (Config.ftPrescale i) (Config.ftPeriod i) (Config.ftDuty i),
         .setIndicator .autoYellow] }

/-- The slow timer reprogrammed for index `i`, state and indicator untouched (R144 corner case c). -/
def slowReprogrammed (s : State) (i : FreqIndex) : State :=
  { s with
    g := { s.g with freqIndex := i, ovfCount := 0 }
    hal :=
      { gen := .slow, prescale := Config.ftPrescale i, value := Config.ftReload i
        duty := s.hal.duty, ovfIrqEn := true }
    out := if s.out = .wave then .undef else s.out
    trace := s.trace ++ [.configureSlowTimer (Config.ftPrescale i) (Config.ftReload i)] }

/-- The generation hardware stopped, and nothing else (R131). -/
def stoppedHal (h : Hal) : Hal := { h with gen := .stopped, ovfIrqEn := false }

/-- After `GEN.STOPFAST` (R148). -/
def stoppedFast (s : State) : State :=
  { s with
    hal := stoppedHal s.hal
    out := .low
    trace := s.trace ++ [.stopAllGeneration, .writePin .low] }

/-- After `GEN.STOP` (R147). -/
def stopped (s : State) : State :=
  { s with
    g := { s.g with mode := .manual, state := .manualLow }
    hal := stoppedHal s.hal
    out := .low
    ind := .manualRed
    trace := s.trace ++ [.stopAllGeneration, .writePin .low, .setIndicator .manualRed] }

/-- The registers of a manual level (R143). -/
def manualAt (s : State) (lvl : Level) (hal : Hal) (events : List HalEvent) : State :=
  { s with
    g := { s.g with
      mode := .manual
      state := match lvl with | .low => .manualLow | .high => .manualHigh }
    hal := hal
    out := match lvl with | .low => .low | .high => .high
    ind := match lvl with | .low => .manualRed | .high => .manualGreen
    trace := s.trace ++ events }

/-- The last two events of `GEN.SETMANUAL` (R143). -/
def manualEvents : Level → List HalEvent
  | .low => [.writePin .low, .setIndicator .manualRed]
  | .high => [.writePin .high, .setIndicator .manualGreen]

/-- The pulse: the opposite level and colour, and the delay (R143). -/
def manualPulse : Level → List HalEvent
  | .low => [.writePin .high, .setIndicator .manualGreen, .delay Config.pulseDelay]
  | .high => [.writePin .low, .setIndicator .manualRed, .delay Config.pulseDelay]

/-- One slow toggle of a state with sub-count `c` left (R138). -/
def toggled (s : State) (c : BitVec 8) : State :=
  if s.g.state = .slowAutoHigh then
    { s with
      g := { s.g with state := .slowAutoLow, ovfCount := c }
      out := .low
      ind := if 2 < s.g.freqIndex then .autoYellow else .autoRed
      trace := s.trace ++
        [.writePin .low, .setIndicator (if 2 < s.g.freqIndex then .autoYellow else .autoRed)] }
  else
    { s with
      g := { s.g with state := .slowAutoHigh, ovfCount := c }
      out := .high
      ind := if 2 < s.g.freqIndex then .autoYellow else .autoGreen
      trace := s.trace ++
        [.writePin .high, .setIndicator (if 2 < s.g.freqIndex then .autoYellow else .autoGreen)] }

/-- A state with all three event flags 0. -/
def flagsCleared (s : State) : State :=
  { s with f := { readButtons := false, stopGenerator := false, timer1Overflow := false } }

/-! ## Expected sequences of words -/

/-- The same button fed several samples (40_debouncer.md R107). -/
def feed (id : ButtonId) : List Sample → State → Result
  | [], s => .next s
  | x :: xs, s => andThen (exec (.btnUpdate id x) s) (feed id xs)

/-- The operation a press calls (43_dispatcher.md R174). -/
def actionInstr : Button → GenMode → Instr
  | .up, .auto => .genFreqUp
  | .up, .manual => .genSetManual .high
  | .down, .auto => .genFreqDown
  | .down, .manual => .genSetManual .low
  | .mode, _ => .genToggleMode

/-- One turn of the loop of step 3, as words (R173). -/
def served (b : Button) (s : State) : Result :=
  if (s.bs.get b).pressed then
    andThen (exec (actionInstr b s.g.mode) s) (exec (.btnClrP (idOf b)))
  else .next s

/-- One loop iteration (`DSP.ITER`, 30_encoding.md R88). -/
def iteration (s : State) : Result :=
  andThen (exec .dspStep s) fun t => andThen (exec .dspStep t) (exec .dspStep)

/-! ## Kinds of words -/

/-- The `GEN` operations of 42_generator.md R150: all but `GEN.STOPFAST`. -/
def isSettling : Instr → Bool
  | .genInit | .genToggleMode | .genSetAuto | .genFreqUp | .genFreqDown | .genOvf => true
  | .genStop | .genSetManual _ => true
  | .genStopFast | .btnUpdate _ _ | .btnClrP _ | .btnClrC _ | .btnClrL _ => false
  | .dspStep | .irqTick | .irqOvf | .irqHalt | .pinSet _ => false

/-- The words of the button debouncer. -/
def isButtonWord : Instr → Bool
  | .btnUpdate _ _ | .btnClrP _ | .btnClrC _ | .btnClrL _ => true
  | .genInit | .genToggleMode | .genSetAuto | .genFreqUp | .genFreqDown | .genOvf => false
  | .genStop | .genSetManual _ | .genStopFast => false
  | .dspStep | .irqTick | .irqOvf | .irqHalt | .pinSet _ => false

/-- All words of the generator. -/
def isGenWord (i : Instr) : Bool := isSettling i || i == .genStopFast

end Sys2Proof.Expected

open Sys2Proof Sys2Proof.Machine Sys2Proof.Expected

/-! ## Encoding -/

/-- Decoding an encoded instruction gives it back, and leaves the bytes after it (30_encoding.md
R80 to R83; the encodings are the spec's decision D1). -/
def Obligations.DecodeOfEncode : Prop :=
  ∀ (i : Instr) (rest : List Byte), decode (encode i :: rest) = .ok (i, rest)

/-- Each defined word has one meaning: encoding what a word decodes to gives the word back. -/
def Obligations.EncodeOfDecode : Prop :=
  ∀ (w : Byte) (i : Instr), decodeWord w = .ok i → encode i = w

/-- R84: the decoder rejects exactly the listed reserved words, by name, and every other word
selects exactly one row of the opcode map. -/
def Obligations.ReservedWordsRejected : Prop :=
  ∀ w : Byte,
    (decodeWord w = .error (.reserved w) ↔ reservedWord w = true) ∧
    (opRows.filter fun r => rowSelects r w).length = if reservedWord w then 0 else 1

/-- Words written out from the spec's formats, one or more of every family, and the instructions
they stand for. -/
def Obligations.WordsOfTheOpcodeMap : Prop :=
  decodeWord 0b00000011#8 = .ok (.btnUpdate .down .pressed) ∧
  decodeWord 0b00010010#8 = .ok (.btnClrP .mode) ∧
  decodeWord 0b00100001#8 = .ok (.btnClrC .down) ∧
  decodeWord 0b00110000#8 = .ok (.btnClrL .up) ∧
  decodeWord 0b01000011#8 = .ok .genFreqUp ∧
  decodeWord 0b01001001#8 = .ok (.genSetManual .high) ∧
  decodeWord 0b01010000#8 = .ok .dspStep ∧
  decodeWord 0b01100010#8 = .ok .irqHalt ∧
  decodeWord 0b01110101#8 = .ok (.pinSet 0b101#3)

/-- R87: the assembler reads back every line the disassembler writes. -/
def Obligations.AssembleOfDisassemble : Prop :=
  ∀ i : Instr, assembleLine (disassemble i) = some [.word (encode i)]

/-! ## Button debouncer -/

/-- R100 at the default thresholds, with everything else unchanged. -/
def Obligations.BtnUpdateResult : Prop :=
  ∀ (id : ButtonId) (b : Button) (smp : Sample) (s : State), buttonOf id = some b →
    ∃ r : ButtonState, exec (.btnUpdate id smp) s = .next (s.setButton b r) ∧
      r.lastPinState = smp ∧
      (smp = .pressed → (s.bs.get b).pressedCounter.toNat < 10 →
        r.pressedCounter.toNat = (s.bs.get b).pressedCounter.toNat + 1 ∧
        (r.pressed = true ↔
          (s.bs.get b).pressed = true ∨ (s.bs.get b).pressedCounter.toNat + 1 = 1) ∧
        (r.longPressed = true ↔
          (s.bs.get b).longPressed = true ∨ (s.bs.get b).pressedCounter.toNat + 1 = 10) ∧
        r.clicked = (s.bs.get b).clicked) ∧
      (smp = .pressed → 10 ≤ (s.bs.get b).pressedCounter.toNat →
        r = { s.bs.get b with lastPinState := .pressed }) ∧
      (smp = .released →
        r.pressedCounter = 0 ∧ r.pressed = (s.bs.get b).pressed ∧
        r.longPressed = (s.bs.get b).longPressed ∧
        (r.clicked = true ↔ (s.bs.get b).clicked = true ∨
          (1 ≤ (s.bs.get b).pressedCounter.toNat ∧ (s.bs.get b).pressedCounter.toNat < 10)))

/-- R104. -/
def Obligations.UnrecognisedButtonIsNoOp : Prop :=
  ∀ (smp : Sample) (s : State),
    exec (.btnUpdate .unrecognised smp) s = .next s ∧ exec (.btnClrP .unrecognised) s = .next s ∧
    exec (.btnClrC .unrecognised) s = .next s ∧ exec (.btnClrL .unrecognised) s = .next s

/-- R101, R102, R103: each clears its own latch of the button and nothing else. -/
def Obligations.LatchClearResults : Prop :=
  ∀ (id : ButtonId) (b : Button) (s : State), buttonOf id = some b →
    exec (.btnClrP id) s = .next (s.setButton b { s.bs.get b with pressed := false }) ∧
    exec (.btnClrC id) s = .next (s.setButton b { s.bs.get b with clicked := false }) ∧
    exec (.btnClrL id) s = .next (s.setButton b { s.bs.get b with longPressed := false })

/-- R106: whatever the sample, no latch of any button goes from 1 to 0. -/
def Obligations.UpdateNeverClearsLatch : Prop :=
  ∀ (id : ButtonId) (smp : Sample) (s : State), ∃ t, exec (.btnUpdate id smp) s = .next t ∧
    ∀ b : Button,
      ((s.bs.get b).pressed = true → (t.bs.get b).pressed = true) ∧
      ((s.bs.get b).longPressed = true → (t.bs.get b).longPressed = true) ∧
      ((s.bs.get b).clicked = true → (t.bs.get b).clicked = true)

/-- R107 (the spec derives it from R100): a hold of `n` samples from a fresh record, and its
release. -/
def Obligations.HoldThenRelease : Prop :=
  ∀ (id : ButtonId) (b : Button) (s : State) (n : Nat), buttonOf id = some b →
    (s.bs.get b).pressedCounter = 0 → (s.bs.get b).pressed = false →
    (s.bs.get b).longPressed = false → (s.bs.get b).clicked = false →
    ∃ t u, feed id (List.replicate n .pressed) s = .next t ∧
      exec (.btnUpdate id .released) t = .next u ∧
      (t.bs.get b).pressedCounter.toNat = min n 10 ∧
      ((t.bs.get b).pressed = true ↔ 1 ≤ n) ∧ ((t.bs.get b).longPressed = true ↔ 10 ≤ n) ∧
      (t.bs.get b).clicked = false ∧
      (u.bs.get b).pressedCounter = 0 ∧ ((u.bs.get b).clicked = true ↔ 1 ≤ n ∧ n < 10)

/-- R109 (derived from R100; decision D5): inside a hold `pressed` is set by the first tick only, and
`longPressed`, once the counter is at its clamp, by none. -/
def Obligations.NoRelatchInsideHold : Prop :=
  ∀ (id : ButtonId) (b : Button) (s : State) (n : Nat), buttonOf id = some b →
    ∃ t, feed id (List.replicate n .pressed) s = .next t ∧
      (1 ≤ (s.bs.get b).pressedCounter.toNat → (s.bs.get b).pressedCounter.toNat ≤ 10 →
        (s.bs.get b).pressed = false → (t.bs.get b).pressed = false) ∧
      (10 = (s.bs.get b).pressedCounter.toNat → (s.bs.get b).longPressed = false →
        (t.bs.get b).longPressed = false)

/-- R108 (derived; decision D6): with the invariant of R22, running the release branch only on a
transition gives the same records. -/
def Obligations.ReleaseOnTransitionOnly : Prop :=
  ∀ (p : Params) (smp : Sample) (r : ButtonState), paramsWellFormed p = true → RecordInv p r →
    updateRecord p smp r =
      if smp = .released ∧ r.lastPinState = .released then r else updateRecord p smp r

/-- R22 (derived), for any parameters of 00_scope.md R5: every sample keeps the record invariant. -/
def Obligations.UpdateKeepsRecordInv : Prop :=
  ∀ (p : Params) (smp : Sample) (r : ButtonState), paramsWellFormed p = true → RecordInv p r →
    RecordInv p (updateRecord p smp r)

/-! ## Frequency table -/

/-- R121: the regime tag by index and by nominal frequency. -/
def Obligations.RegimeOfLevel : Prop :=
  ∀ i : FreqIndex,
    (lookup i).regime = (if i.val ≤ 4 then .slowSoftware else .fastHardware) ∧
    ((lookup i).regime = .slowSoftware ↔ nominalMilliHertz i ≤ 200000)

/-- R120, R125, R126: the nominal frequencies ascend, a slow level is above 10 Hz exactly above
index 2, and the implied overflow rates are 4, 4, 20, 100 and 400 per second. -/
def Obligations.NominalFrequencies : Prop :=
  (∀ i j : FreqIndex, i < j → nominalMilliHertz i < nominalMilliHertz j) ∧
  (∀ i : FreqIndex, 10000 < nominalMilliHertz i ↔ yellowAboveIndex < i) ∧
  impliedOverflowMilliHertz params 0 = 4000 ∧ impliedOverflowMilliHertz params 1 = 4000 ∧
  impliedOverflowMilliHertz params 2 = 20000 ∧ impliedOverflowMilliHertz params 3 = 100000 ∧
  impliedOverflowMilliHertz params 4 = 400000

/-! ## Generator -/

/-- R140: unconditional entry into Auto mode at index 1 (2 Hz), going high (decisions D10, D11). -/
def Obligations.GenInitResult : Prop :=
  ∀ s : State, exec .genInit s = .next (autoEntered s 1)

/-- R142 (decisions D11, D12, D30). -/
def Obligations.GenSetAutoResult : Prop :=
  ∀ s : State,
    (s.g.mode = .auto → exec .genSetAuto s = .next s) ∧
    (s.g.mode = .manual → exec .genSetAuto s = .next (autoEntered s s.g.freqIndex))

/-- R141 (decision D13), in states whose mode and state agree (R29). -/
def Obligations.GenToggleModeResult : Prop :=
  ∀ s : State, ModeInv s →
    (s.g.mode = .auto → exec .genToggleMode s =
      .next (manualAt s .low (stoppedHal s.hal) (.stopAllGeneration :: manualEvents .low))) ∧
    (s.g.mode = .manual → exec .genToggleMode s = .next (autoEntered s s.g.freqIndex))

/-- R143 from Auto mode: the hardware is stopped first and there is no pulse. -/
def Obligations.GenSetManualFromAuto : Prop :=
  ∀ (lvl : Level) (s : State), ModeInv s → s.g.mode = .auto →
    exec (.genSetManual lvl) s =
      .next (manualAt s lvl (stoppedHal s.hal) (.stopAllGeneration :: manualEvents lvl))

/-- R143 in Manual mode: nothing is stopped again; a pulse exactly when the level is the present
one. The premise on HAL is an invariant (`StepKeepsInvariant`). -/
def Obligations.GenSetManualInManual : Prop :=
  ∀ (lvl : Level) (s : State), s.g.mode = .manual → s.hal.gen ≠ .fast →
    (s.g.state = (match lvl with | .low => .manualLow | .high => .manualHigh) →
      exec (.genSetManual lvl) s =
        .next (manualAt s lvl s.hal (manualPulse lvl ++ manualEvents lvl))) ∧
    (s.g.state ≠ (match lvl with | .low => .manualLow | .high => .manualHigh) →
      exec (.genSetManual lvl) s = .next (manualAt s lvl s.hal (manualEvents lvl)))

/-- R144, R145, E2 to E4 of 60_exceptions.md R191: in Manual mode and at the table's bounds the
frequency operations do nothing. -/
def Obligations.FrequencyNoEffect : Prop :=
  ∀ s : State,
    (s.g.mode = .manual → exec .genFreqUp s = .next s ∧ exec .genFreqDown s = .next s) ∧
    (s.g.freqIndex = 11 → exec .genFreqUp s = .next s) ∧
    (s.g.freqIndex = 0 → exec .genFreqDown s = .next s)

/-- R144 (decisions D12, D14) in Auto mode below index 11. -/
def Obligations.GenFreqUpResult : Prop :=
  ∀ (s : State) (j : FreqIndex), ModeInv s → s.g.mode = .auto →
    j.val = s.g.freqIndex.val + 1 →
    exec .genFreqUp s = .next (if j ≤ 4 then slowReprogrammed s j else autoEntered s j)

/-- R145 (decisions D11, D12, D14) in Auto mode above index 0: crossing from 5 to 4 goes high. -/
def Obligations.GenFreqDownResult : Prop :=
  ∀ (s : State) (j : FreqIndex), ModeInv s → s.g.mode = .auto →
    j.val + 1 = s.g.freqIndex.val →
    exec .genFreqDown s = .next (if j < 4 then slowReprogrammed s j else autoEntered s j)

/-- R146 outside the slow regime (decision D16). -/
def Obligations.OvfOutsideSlowRegime : Prop :=
  ∀ s : State, s.g.mode = .manual ∨ 5 ≤ s.g.freqIndex → exec .genOvf s = .next s

/-- R146 with R138 at indices 1 to 4: every overflow toggles. -/
def Obligations.OvfTogglesEveryTime : Prop :=
  ∀ s : State, s.g.mode = .auto → 1 ≤ s.g.freqIndex → s.g.freqIndex ≤ 4 → s.hal.gen ≠ .fast →
    exec .genOvf s = .next (toggled s s.g.ovfCount)

/-- R146 with R138 at index 0: the first three overflows count, the fourth toggles. -/
def Obligations.OvfCountsAtLowest : Prop :=
  ∀ s : State, s.g.mode = .auto → s.g.freqIndex = 0 → s.hal.gen ≠ .fast →
    (s.g.ovfCount.toNat < 3 →
      exec .genOvf s = .next { s with g := { s.g with ovfCount := s.g.ovfCount + 1 } }) ∧
    (s.g.ovfCount.toNat = 3 → exec .genOvf s = .next (toggled s 0))

/-- R146 corner case (b): four overflows at index 0 give exactly one toggle, from any sub-count. -/
def Obligations.FourOverflowsOneToggle : Prop :=
  ∀ s : State, s.g.mode = .auto → s.g.freqIndex = 0 → s.hal.gen ≠ .fast → s.g.ovfCount < 4 →
    andThen (exec .genOvf s) (fun t => andThen (exec .genOvf t) fun u =>
      andThen (exec .genOvf u) (exec .genOvf)) = .next (toggled s s.g.ovfCount)

/-- R147 (decision D17): the same from every state. -/
def Obligations.GenStopResult : Prop :=
  ∀ s : State, exec .genStop s = .next (stopped s)

/-- R148: from every state, without touching mode, state or indicator; its word is 0x47. -/
def Obligations.GenStopFastResult : Prop :=
  encode .genStopFast = 0x47#8 ∧ ∀ s : State, exec .genStopFast s = .next (stoppedFast s)

/-- R134 (93_implementation_defined.md U4): a pin write while the waveform generator runs is
refused; only states no run reaches have one. -/
def Obligations.PinWriteWhileFastRefused : Prop :=
  ∀ (lvl : Level) (s : State), s.hal.gen = .fast →
    (s.g.mode = .manual → exec (.genSetManual lvl) s = .refused .writePinWhileFast) ∧
    (s.g.mode = .auto → 1 ≤ s.g.freqIndex → s.g.freqIndex ≤ 4 →
      exec .genOvf s = .refused .writePinWhileFast)

/-- R149 (derived): the transition table of mode and state. -/
def Obligations.TransitionTable : Prop :=
  ∀ s t : State, ModeInv s → s.g.ovfCount < 4 →
    (exec .genInit s = .next t → t.g.mode = .auto ∧ t.g.state = .slowAutoHigh) ∧
    (exec .genToggleMode s = .next t →
      if s.g.mode = .auto then t.g.mode = .manual ∧ t.g.state = .manualLow
      else t.g.mode = .auto ∧
        t.g.state = if t.g.freqIndex ≤ 4 then .slowAutoHigh else .fastAuto) ∧
    (exec .genSetAuto s = .next t →
      t.g.mode = .auto ∧
      t.g.state = if s.g.mode = .auto then s.g.state
        else if t.g.freqIndex ≤ 4 then .slowAutoHigh else .fastAuto) ∧
    (exec (.genSetManual .low) s = .next t → t.g.mode = .manual ∧ t.g.state = .manualLow) ∧
    (exec (.genSetManual .high) s = .next t → t.g.mode = .manual ∧ t.g.state = .manualHigh) ∧
    (exec .genFreqUp s = .next t →
      t.g.mode = s.g.mode ∧
      t.g.state = if s.g.mode = .auto ∧ s.g.freqIndex = 4 then .fastAuto else s.g.state) ∧
    (exec .genFreqDown s = .next t →
      t.g.mode = s.g.mode ∧
      t.g.state = if s.g.mode = .auto ∧ s.g.freqIndex = 5 then .slowAutoHigh else s.g.state) ∧
    (exec .genOvf s = .next t →
      t.g.mode = s.g.mode ∧
      t.g.state =
        if s.g.freqIndex = 0 ∧ s.g.ovfCount ≠ 3 then s.g.state
        else if s.g.state = .slowAutoHigh then .slowAutoLow
        else if s.g.state = .slowAutoLow then .slowAutoHigh else s.g.state) ∧
    (exec .genStop s = .next t → t.g.mode = .manual ∧ t.g.state = .manualLow) ∧
    (exec .genStopFast s = .next t → t.g = s.g)

/-- R150 (derived): every `GEN` operation but `GEN.STOPFAST` completes and keeps registers,
hardware and pin in agreement. -/
def Obligations.GeneratorStaysSettled : Prop :=
  ∀ (i : Instr) (s : State), isSettling i = true → ModeInv s → CountInv params s → Settled s →
    ∃ t, exec i s = .next t ∧ ModeInv t ∧ CountInv params t ∧ Settled t

/-! ## Dispatcher -/

/-- R171: step 1. The callback, where it runs, is `GEN.OVF`, and the flag is cleared after it. -/
def Obligations.DspStepOne : Prop :=
  ∀ s : State, s.phase = .one →
    (s.f.timer1Overflow = false → exec .dspStep s = .next { s with phase := .two }) ∧
    (s.f.timer1Overflow = true → s.f.stopGenerator = true →
      exec .dspStep s =
        .next { s with phase := .two, f := { s.f with timer1Overflow := false } }) ∧
    (s.f.timer1Overflow = true → s.f.stopGenerator = false →
      exec .dspStep s = andThen (exec .genOvf s) fun t =>
        .next { t with phase := .two, f := { t.f with timer1Overflow := false } })

/-- R172: step 2. The flag is cleared before `GEN.STOP` runs. -/
def Obligations.DspStepTwo : Prop :=
  ∀ s : State, s.phase = .two →
    (s.f.stopGenerator = false → exec .dspStep s = .next { s with phase := .three }) ∧
    (s.f.stopGenerator = true → exec .dspStep s =
      andThen (exec .genStop { s with f := { s.f with stopGenerator := false } }) fun t =>
        .next { t with phase := .three })

/-- R173, R174 (decision D8): step 3, as the words it stands for. -/
def Obligations.DspStepThree : Prop :=
  ∀ s : State, s.phase = .three →
    (s.f.readButtons = false → exec .dspStep s = .next { s with phase := .one }) ∧
    (s.f.readButtons = true → exec .dspStep s =
      andThen (exec (.btnUpdate .up (if s.pins.getLsbD 0 then .pressed else .released))
        { s with f := { s.f with readButtons := false } }) fun s1 =>
      andThen (exec (.btnUpdate .down (if s.pins.getLsbD 1 then .pressed else .released)) s1)
        fun s2 =>
      andThen (exec (.btnUpdate .mode (if s.pins.getLsbD 2 then .pressed else .released)) s2)
        fun s3 =>
      andThen (served .up s3) fun s4 =>
      andThen (served .down s4) fun s5 =>
      andThen (served .mode s5) fun s6 =>
      .next { s6 with phase := .one })

/-- R175 with R170 and R171 to R173: in every state of the block a `DSP.STEP` completes, advances
`PHASE`, consumes its own flag, and leaves the other flags, the pins and the world's events. -/
def Obligations.DspStepCompletes : Prop :=
  ∀ s : State, BlockInv params s →
    ∃ t, exec .dspStep s = .next t ∧
      t.phase = (match s.phase with | .one => .two | .two => .three | .three => .one) ∧
      t.f = (match s.phase with
        | .one => { s.f with timer1Overflow := false }
        | .two => { s.f with stopGenerator := false }
        | .three => { s.f with readButtons := false }) ∧
      t.pins = s.pins ∧ t.events = s.events ∧ t.booted = s.booted ∧
      (s.phase ≠ .three → t.bs = s.bs) ∧ s.trace <+: t.trace

/-- R178 (derived): one iteration from `PHASE = 1` for each value of the flags. -/
def Obligations.IterationTable : Prop :=
  ∀ s : State, s.phase = .one →
    (s.f.timer1Overflow = false → s.f.stopGenerator = false → s.f.readButtons = false →
      iteration s = .next s) ∧
    (s.f.timer1Overflow = false → s.f.stopGenerator = false → s.f.readButtons = true →
      iteration s = exec .dspStep { s with phase := .three }) ∧
    (s.f.stopGenerator = true → s.f.readButtons = false →
      iteration s = .next (flagsCleared (stopped s))) ∧
    (s.f.stopGenerator = true → s.f.readButtons = true →
      iteration s = exec .dspStep { stopped s with
        phase := .three
        f := { readButtons := true, stopGenerator := false, timer1Overflow := false } }) ∧
    (s.f.timer1Overflow = true → s.f.stopGenerator = false → s.f.readButtons = false →
      ∀ u, exec .genOvf s = .next u → iteration s = .next (flagsCleared u)) ∧
    (s.f.timer1Overflow = true → s.f.stopGenerator = false → s.f.readButtons = true →
      ∀ u, exec .genOvf s = .next u → iteration s = exec .dspStep { u with
        phase := .three
        f := { readButtons := true, stopGenerator := false, timer1Overflow := false } })

/-! ## Interrupts and environment -/

/-- R193: always enabled, sets `F.readButtons` only, samples nothing; its word is 0x60. -/
def Obligations.IrqTickResult : Prop :=
  encode .irqTick = 0x60#8 ∧
  ∀ s : State,
    exec .irqTick s = .next { s with f := { s.f with readButtons := true } } ∧
    (s.f.readButtons = true → exec .irqTick s = .next s)

/-- R194 (decision D20). -/
def Obligations.IrqOvfResult : Prop :=
  ∀ s : State,
    (s.hal.ovfIrqEn = true →
      exec .irqOvf s = .next { s with f := { s.f with timer1Overflow := true } }) ∧
    (s.hal.ovfIrqEn = false → exec .irqOvf s = .refused .ovfIrqDisabled)

/-- R195 (decision D21): the hardware stop and the flag, from every state. -/
def Obligations.IrqHaltResult : Prop :=
  ∀ s : State, exec .irqHalt s =
    .next { stoppedFast s with f := { s.f with stopGenerator := true } }

/-- R196 (decision D3). -/
def Obligations.PinSetResult : Prop :=
  ∀ (pins : BitVec 3) (s : State), exec (.pinSet pins) s = .next { s with pins := pins }

/-- R224 (derived): a halt and `GEN.STOP`, run by the next step 2, lead to ManualLow. The index, the
sub-count, the buttons, the pins and the other flags stay, and so do the model's own fields; `PHASE`
moves as that `DSP.STEP` moves it (R172, R170). -/
def Obligations.HaltThenStepTwo : Prop :=
  ∀ s : State, s.phase = .two →
    ∃ t, andThen (exec .irqHalt s) (exec .dspStep) = .next t ∧
      t.g = { s.g with mode := .manual, state := .manualLow } ∧ t.hal = stoppedHal s.hal ∧
      t.out = .low ∧ t.ind = .manualRed ∧ t.f = { s.f with stopGenerator := false } ∧
      t.bs = s.bs ∧ t.pins = s.pins ∧ t.phase = .three ∧ t.events = s.events ∧
      t.booted = s.booted ∧
      t.trace = s.trace ++ [.stopAllGeneration, .writePin .low, .stopAllGeneration,
        .writePin .low, .setIndicator .manualRed]

/-- R197 (derived): a second event that finds its flag set is merged with the first; a second halt
edge repeats only the hardware stop. -/
def Obligations.PendingEventsMerge : Prop :=
  ∀ s : State,
    andThen (exec .irqTick s) (exec .irqTick) = exec .irqTick s ∧
    andThen (exec .irqOvf s) (exec .irqOvf) = exec .irqOvf s ∧
    ∃ t u, exec .irqHalt s = .next t ∧ exec .irqHalt t = .next u ∧
      u = { t with trace := t.trace ++ [.stopAllGeneration, .writePin .low] }

/-! ## Whole-machine rules -/

/-- 10_state.md R36: what INT and ENV events leave alone. -/
def Obligations.InterruptsOwnFlagsOnly : Prop :=
  ∀ (i : Instr) (s t : State), agentOf i ≠ .loop → exec i s = .next t →
    t.bs = s.bs ∧ t.g = s.g ∧ t.phase = s.phase ∧ t.ind = s.ind ∧ t.events = s.events ∧
    t.booted = s.booted ∧
    (s.f.readButtons = true → t.f.readButtons = true) ∧
    (s.f.stopGenerator = true → t.f.stopGenerator = true) ∧
    (s.f.timer1Overflow = true → t.f.timer1Overflow = true) ∧
    (agentOf i = .int → t.pins = s.pins) ∧
    (i ≠ .irqHalt → t.hal = s.hal ∧ t.out = s.out ∧ t.trace = s.trace) ∧
    (agentOf i = .env → t.f = s.f)

/-- 10_state.md R36: the loop never sets a flag and never writes the pins; and within the loop each
family keeps to its own state. -/
def Obligations.LoopNeverSetsFlags : Prop :=
  ∀ (i : Instr) (s t : State), agentOf i = .loop → exec i s = .next t →
    t.pins = s.pins ∧ t.events = s.events ∧ t.booted = s.booted ∧
    (t.f.readButtons = true → s.f.readButtons = true) ∧
    (t.f.stopGenerator = true → s.f.stopGenerator = true) ∧
    (t.f.timer1Overflow = true → s.f.timer1Overflow = true) ∧
    (isButtonWord i = true → t = { s with bs := t.bs }) ∧
    (isGenWord i = true → t.bs = s.bs ∧ t.f = s.f ∧ t.phase = s.phase)

/-- 10_state.md R27 (derived): only `GEN.INIT` and the frequency operations, and the dispatcher
through them, write the index, and a frequency operation moves it by at most one. -/
def Obligations.FreqIndexWriters : Prop :=
  ∀ (i : Instr) (s t : State), exec i s = .next t →
    (i ≠ .genInit → i ≠ .genFreqUp → i ≠ .genFreqDown → i ≠ .dspStep →
      t.g.freqIndex = s.g.freqIndex) ∧
    (i = .genFreqUp → s.g.freqIndex ≤ t.g.freqIndex ∧
      t.g.freqIndex.val ≤ s.g.freqIndex.val + 1) ∧
    (i = .genFreqDown → t.g.freqIndex ≤ s.g.freqIndex ∧
      s.g.freqIndex.val ≤ t.g.freqIndex.val + 1)

/-- 70_reset_and_hazards.md R225: no word but a consumer's own clear ever clears `clicked` or
`longPressed`. -/
def Obligations.LatchesPersist : Prop :=
  ∀ (i : Instr) (b : Button) (s t : State), exec i s = .next t →
    ((s.bs.get b).clicked = true → i ≠ .btnClrC (idOf b) → (t.bs.get b).clicked = true) ∧
    ((s.bs.get b).longPressed = true → i ≠ .btnClrL (idOf b) → (t.bs.get b).longPressed = true)

/-- R130 with R131 to R136: whatever the instruction, the changes of `HAL`, `OUT` and `IND` are
exactly the effects of the events it appends to `TRACE`, and none of them shows `Off` (R135). -/
def Obligations.TraceExplainsHardware : Prop :=
  ∀ (i : Instr) (s t : State), exec i s = .next t →
    ∃ es : List HalEvent, t.trace = s.trace ++ es ∧ HalEvent.setIndicator .off ∉ es ∧
      t.hal = es.foldl (fun h e => eventHal e h) s.hal ∧
      t.out = es.foldl (fun o e => eventOut e o) s.out ∧
      t.ind = es.foldl (fun c e => eventInd e c) s.ind

/-- The invariant of the block (R22, R28, R29, R33, 93 section 2, R130, R150): every step keeps it,
from every state that has it. -/
def Obligations.StepKeepsInvariant : Prop :=
  ∀ s t : State, BlockInv params s → step s = .next t → BlockInv params t

/-- The reset state has the invariant. -/
def Obligations.ResetHasInvariant : Prop := BlockInv params State.reset

/-- R68, R84, R175, R194, R196, R207, R221: in a state of the block the machine goes on exactly when
its next event may occur. That INT and ENV words wait for the boot is log entries 2 and 3; that the
events to come stand in State is log entry 1. -/
def Obligations.StepSafeIffEnabled : Prop :=
  ∀ s : State, BlockInv params s → (StepSafe s ↔ nextEnabled s = true)

/-- R5 (D29) and R174 (D8): for any well-formed parameters and any button table, every operation of
the loop completes in a state with the invariant and keeps it. -/
def Obligations.AnyParametersKeepInvariant : Prop :=
  ∀ (p : Params) (s : State), paramsWellFormed p = true → BlockInv p s →
    (∃ t, dspStep p s = .next t ∧ BlockInv p t) ∧
    ∀ op : GenOp, ∃ t, runGenOp p op s = .next t ∧ BlockInv p t

/-! ## Steps -/

/-- A presented word that decodes, and is admitted, is what the step runs, from the state with that
event taken (00_scope.md R11). The model's own around `exec`: the list of presented events (log
entry 1), the note of the end of boot (log entry 2), and that a word which is not the loop's is
admitted only after it (log entries 2, 3). -/
def Obligations.StepRunsDecodedWord : Prop :=
  ∀ (w : Byte) (i : Instr) (rest : List Event) (s : State),
    s.events = .word w :: rest → decodeWord w = .ok i → (agentOf i ≠ .loop → s.booted = true) →
    step s = andThen (exec i { s with events := rest }) fun t =>
      .next { t with booted := t.booted || i == .genInit }

/-- Log entry 1, for R90 and R221: with no event presented the loop runs free, `GEN.INIT` first, and
such a step is the LOOP event of that word. -/
def Obligations.LoopRunsFree : Prop :=
  ∀ s : State, s.events = [] →
    (s.booted = false → step s = .next { autoEntered s 1 with booted := true }) ∧
    (s.booted = true → step s = exec .dspStep s) ∧
    step s = takeEvent (.word (encode (if s.booted then .dspStep else .genInit))) s

/-- R84, and R207, R221 with 93_implementation_defined.md section 2 (log entries 2, 3): the presented
words that have no step. -/
def Obligations.StepRefusals : Prop :=
  ∀ (w : Byte) (rest : List Event) (s : State), s.events = .word w :: rest →
    (reservedWord w = true → step s = .refused (.reservedWord w)) ∧
    (∀ i, decodeWord w = .ok i → agentOf i ≠ .loop → s.booted = false →
      step s = .refused (.beforeBoot w))

/-- R220 with R37 (decision D9): the reset event, from any state. -/
def Obligations.ResetEventResult : Prop :=
  ∀ (rest : List Event) (s : State), s.events = .reset :: rest →
    step s = .next
      { bs :=
          { up := ⟨0, false, false, false, .released⟩
            down := ⟨0, false, false, false, .released⟩
            mode := ⟨0, false, false, false, .released⟩ }
        f := { readButtons := false, stopGenerator := false, timer1Overflow := false }
        g := { mode := .manual, state := .manualLow, freqIndex := 0, ovfCount := 0 }
        phase := .one
        out := .low
        ind := .off
        hal := { gen := .stopped, prescale := 0, value := 0, duty := 0, ovfIrqEn := false }
        pins := s.pins
        trace := []
        events := rest
        booted := false }

/-- R222 (derived): after `BOOT`, from any state, the machine is in the start state of every
deployed run. That `BOOT` is presented as two events is log entry 1, and that the events after it
stay across the reset is log entry 8. -/
def Obligations.BootState : Prop :=
  ∀ (rest : List Event) (s : State), s.events = boot ++ rest →
    ∃ t u, step s = .next t ∧ step t = .next u ∧
      u.bs.up = ⟨0, false, false, false, .released⟩ ∧
      u.bs.down = ⟨0, false, false, false, .released⟩ ∧
      u.bs.mode = ⟨0, false, false, false, .released⟩ ∧
      u.f = { readButtons := false, stopGenerator := false, timer1Overflow := false } ∧
      u.g = { mode := .auto, state := .slowAutoHigh, freqIndex := 1, ovfCount := 0 } ∧
      u.phase = .one ∧ u.out = .high ∧ u.ind = .autoGreen ∧
      u.hal = { gen := .slow, prescale := Config.ftPrescale 1, value := Config.ftReload 1
                duty := 0, ovfIrqEn := true } ∧
      u.trace = [.configureSlowTimer (Config.ftPrescale 1) (Config.ftReload 1), .writePin .high,
        .setIndicator .autoGreen] ∧
      u.pins = s.pins ∧ u.events = rest

/-! ## Runs -/

/-- 00_scope.md R11, 20_memory.md R67: the block's invariant along every run, finite or infinite. -/
def Obligations.RunKeepsInvariant : Prop :=
  ∀ (r : EventSequence) (n : Nat) (s t : State), BlockInv params s →
    afterEvents r n s = .next t → BlockInv params t

/-- R11, R68: a sequence, finite or infinite, is a run from a state of the block exactly when each of
its events may occur where it comes. That INT and ENV words wait for the boot is log entries 2 and
3. -/
def Obligations.RunIffEnabled : Prop :=
  ∀ (r : EventSequence) (s : State), BlockInv params s →
    (IsRun r s ↔ ∀ (n : Nat) (e : Event) (t : State),
      r.at? n = some e → afterEvents r n s = .next t → eventEnabled e t = true)

/-- R11 (log entry 1): a finite sequence presented beforehand in `events` does, step by step, what
presenting its events one at a time does. -/
def Obligations.StepsTakePresentedEvents : Prop :=
  ∀ (es rest : List Event) (s : State), s.events = es ++ rest →
    steps es.length s = takeEvents es { s with events := rest }
end

