-- ==== Sys2Proof/Laws/State.lean ====
section
/-! SUPPORT. One lemma per register write and field of State, and per emitted event and field, so
that no later proof unfolds a record update. -/

namespace Sys2Proof.Machine

variable (s : State)

/-! ### setButton -/

section
variable (b : Button) (v : ButtonState)

@[simp] theorem State.setButton_bs : (s.setButton b v).bs = s.bs.set b v := rfl
@[simp] theorem State.setButton_f : (s.setButton b v).f = s.f := rfl
@[simp] theorem State.setButton_g : (s.setButton b v).g = s.g := rfl
@[simp] theorem State.setButton_phase : (s.setButton b v).phase = s.phase := rfl
@[simp] theorem State.setButton_out : (s.setButton b v).out = s.out := rfl
@[simp] theorem State.setButton_ind : (s.setButton b v).ind = s.ind := rfl
@[simp] theorem State.setButton_hal : (s.setButton b v).hal = s.hal := rfl
@[simp] theorem State.setButton_pins : (s.setButton b v).pins = s.pins := rfl
@[simp] theorem State.setButton_trace : (s.setButton b v).trace = s.trace := rfl
@[simp] theorem State.setButton_events : (s.setButton b v).events = s.events := rfl
@[simp] theorem State.setButton_booted : (s.setButton b v).booted = s.booted := rfl

end

/-! ### setReadButtons -/

section
variable (v : Bool)

@[simp] theorem State.setReadButtons_bs : (s.setReadButtons v).bs = s.bs := rfl
@[simp] theorem State.setReadButtons_f : (s.setReadButtons v).f = { s.f with readButtons := v } := rfl
@[simp] theorem State.setReadButtons_g : (s.setReadButtons v).g = s.g := rfl
@[simp] theorem State.setReadButtons_phase : (s.setReadButtons v).phase = s.phase := rfl
@[simp] theorem State.setReadButtons_out : (s.setReadButtons v).out = s.out := rfl
@[simp] theorem State.setReadButtons_ind : (s.setReadButtons v).ind = s.ind := rfl
@[simp] theorem State.setReadButtons_hal : (s.setReadButtons v).hal = s.hal := rfl
@[simp] theorem State.setReadButtons_pins : (s.setReadButtons v).pins = s.pins := rfl
@[simp] theorem State.setReadButtons_trace : (s.setReadButtons v).trace = s.trace := rfl
@[simp] theorem State.setReadButtons_events : (s.setReadButtons v).events = s.events := rfl
@[simp] theorem State.setReadButtons_booted : (s.setReadButtons v).booted = s.booted := rfl

end

/-! ### setStopGenerator -/

section
variable (v : Bool)

@[simp] theorem State.setStopGenerator_bs : (s.setStopGenerator v).bs = s.bs := rfl
@[simp] theorem State.setStopGenerator_f : (s.setStopGenerator v).f = { s.f with stopGenerator := v } := rfl
@[simp] theorem State.setStopGenerator_g : (s.setStopGenerator v).g = s.g := rfl
@[simp] theorem State.setStopGenerator_phase : (s.setStopGenerator v).phase = s.phase := rfl
@[simp] theorem State.setStopGenerator_out : (s.setStopGenerator v).out = s.out := rfl
@[simp] theorem State.setStopGenerator_ind : (s.setStopGenerator v).ind = s.ind := rfl
@[simp] theorem State.setStopGenerator_hal : (s.setStopGenerator v).hal = s.hal := rfl
@[simp] theorem State.setStopGenerator_pins : (s.setStopGenerator v).pins = s.pins := rfl
@[simp] theorem State.setStopGenerator_trace : (s.setStopGenerator v).trace = s.trace := rfl
@[simp] theorem State.setStopGenerator_events : (s.setStopGenerator v).events = s.events := rfl
@[simp] theorem State.setStopGenerator_booted : (s.setStopGenerator v).booted = s.booted := rfl

end

/-! ### setTimer1Overflow -/

section
variable (v : Bool)

@[simp] theorem State.setTimer1Overflow_bs : (s.setTimer1Overflow v).bs = s.bs := rfl
@[simp] theorem State.setTimer1Overflow_f : (s.setTimer1Overflow v).f = { s.f with timer1Overflow := v } := rfl
@[simp] theorem State.setTimer1Overflow_g : (s.setTimer1Overflow v).g = s.g := rfl
@[simp] theorem State.setTimer1Overflow_phase : (s.setTimer1Overflow v).phase = s.phase := rfl
@[simp] theorem State.setTimer1Overflow_out : (s.setTimer1Overflow v).out = s.out := rfl
@[simp] theorem State.setTimer1Overflow_ind : (s.setTimer1Overflow v).ind = s.ind := rfl
@[simp] theorem State.setTimer1Overflow_hal : (s.setTimer1Overflow v).hal = s.hal := rfl
@[simp] theorem State.setTimer1Overflow_pins : (s.setTimer1Overflow v).pins = s.pins := rfl
@[simp] theorem State.setTimer1Overflow_trace : (s.setTimer1Overflow v).trace = s.trace := rfl
@[simp] theorem State.setTimer1Overflow_events : (s.setTimer1Overflow v).events = s.events := rfl
@[simp] theorem State.setTimer1Overflow_booted : (s.setTimer1Overflow v).booted = s.booted := rfl

end

/-! ### setMode -/

section
variable (v : GenMode)

@[simp] theorem State.setMode_bs : (s.setMode v).bs = s.bs := rfl
@[simp] theorem State.setMode_f : (s.setMode v).f = s.f := rfl
@[simp] theorem State.setMode_g : (s.setMode v).g = { s.g with mode := v } := rfl
@[simp] theorem State.setMode_phase : (s.setMode v).phase = s.phase := rfl
@[simp] theorem State.setMode_out : (s.setMode v).out = s.out := rfl
@[simp] theorem State.setMode_ind : (s.setMode v).ind = s.ind := rfl
@[simp] theorem State.setMode_hal : (s.setMode v).hal = s.hal := rfl
@[simp] theorem State.setMode_pins : (s.setMode v).pins = s.pins := rfl
@[simp] theorem State.setMode_trace : (s.setMode v).trace = s.trace := rfl
@[simp] theorem State.setMode_events : (s.setMode v).events = s.events := rfl
@[simp] theorem State.setMode_booted : (s.setMode v).booted = s.booted := rfl

end

/-! ### setGenState -/

section
variable (v : GenState)

@[simp] theorem State.setGenState_bs : (s.setGenState v).bs = s.bs := rfl
@[simp] theorem State.setGenState_f : (s.setGenState v).f = s.f := rfl
@[simp] theorem State.setGenState_g : (s.setGenState v).g = { s.g with state := v } := rfl
@[simp] theorem State.setGenState_phase : (s.setGenState v).phase = s.phase := rfl
@[simp] theorem State.setGenState_out : (s.setGenState v).out = s.out := rfl
@[simp] theorem State.setGenState_ind : (s.setGenState v).ind = s.ind := rfl
@[simp] theorem State.setGenState_hal : (s.setGenState v).hal = s.hal := rfl
@[simp] theorem State.setGenState_pins : (s.setGenState v).pins = s.pins := rfl
@[simp] theorem State.setGenState_trace : (s.setGenState v).trace = s.trace := rfl
@[simp] theorem State.setGenState_events : (s.setGenState v).events = s.events := rfl
@[simp] theorem State.setGenState_booted : (s.setGenState v).booted = s.booted := rfl

end

/-! ### setFreqIndex -/

section
variable (v : FreqIndex)

@[simp] theorem State.setFreqIndex_bs : (s.setFreqIndex v).bs = s.bs := rfl
@[simp] theorem State.setFreqIndex_f : (s.setFreqIndex v).f = s.f := rfl
@[simp] theorem State.setFreqIndex_g : (s.setFreqIndex v).g = { s.g with freqIndex := v } := rfl
@[simp] theorem State.setFreqIndex_phase : (s.setFreqIndex v).phase = s.phase := rfl
@[simp] theorem State.setFreqIndex_out : (s.setFreqIndex v).out = s.out := rfl
@[simp] theorem State.setFreqIndex_ind : (s.setFreqIndex v).ind = s.ind := rfl
@[simp] theorem State.setFreqIndex_hal : (s.setFreqIndex v).hal = s.hal := rfl
@[simp] theorem State.setFreqIndex_pins : (s.setFreqIndex v).pins = s.pins := rfl
@[simp] theorem State.setFreqIndex_trace : (s.setFreqIndex v).trace = s.trace := rfl
@[simp] theorem State.setFreqIndex_events : (s.setFreqIndex v).events = s.events := rfl
@[simp] theorem State.setFreqIndex_booted : (s.setFreqIndex v).booted = s.booted := rfl

end

/-! ### setOvfCount -/

section
variable (v : BitVec 8)

@[simp] theorem State.setOvfCount_bs : (s.setOvfCount v).bs = s.bs := rfl
@[simp] theorem State.setOvfCount_f : (s.setOvfCount v).f = s.f := rfl
@[simp] theorem State.setOvfCount_g : (s.setOvfCount v).g = { s.g with ovfCount := v } := rfl
@[simp] theorem State.setOvfCount_phase : (s.setOvfCount v).phase = s.phase := rfl
@[simp] theorem State.setOvfCount_out : (s.setOvfCount v).out = s.out := rfl
@[simp] theorem State.setOvfCount_ind : (s.setOvfCount v).ind = s.ind := rfl
@[simp] theorem State.setOvfCount_hal : (s.setOvfCount v).hal = s.hal := rfl
@[simp] theorem State.setOvfCount_pins : (s.setOvfCount v).pins = s.pins := rfl
@[simp] theorem State.setOvfCount_trace : (s.setOvfCount v).trace = s.trace := rfl
@[simp] theorem State.setOvfCount_events : (s.setOvfCount v).events = s.events := rfl
@[simp] theorem State.setOvfCount_booted : (s.setOvfCount v).booted = s.booted := rfl

end

/-! ### setPhase -/

section
variable (v : Phase)

@[simp] theorem State.setPhase_bs : (s.setPhase v).bs = s.bs := rfl
@[simp] theorem State.setPhase_f : (s.setPhase v).f = s.f := rfl
@[simp] theorem State.setPhase_g : (s.setPhase v).g = s.g := rfl
@[simp] theorem State.setPhase_phase : (s.setPhase v).phase = v := rfl
@[simp] theorem State.setPhase_out : (s.setPhase v).out = s.out := rfl
@[simp] theorem State.setPhase_ind : (s.setPhase v).ind = s.ind := rfl
@[simp] theorem State.setPhase_hal : (s.setPhase v).hal = s.hal := rfl
@[simp] theorem State.setPhase_pins : (s.setPhase v).pins = s.pins := rfl
@[simp] theorem State.setPhase_trace : (s.setPhase v).trace = s.trace := rfl
@[simp] theorem State.setPhase_events : (s.setPhase v).events = s.events := rfl
@[simp] theorem State.setPhase_booted : (s.setPhase v).booted = s.booted := rfl

end

/-! ### setPins -/

section
variable (v : BitVec 3)

@[simp] theorem State.setPins_bs : (s.setPins v).bs = s.bs := rfl
@[simp] theorem State.setPins_f : (s.setPins v).f = s.f := rfl
@[simp] theorem State.setPins_g : (s.setPins v).g = s.g := rfl
@[simp] theorem State.setPins_phase : (s.setPins v).phase = s.phase := rfl
@[simp] theorem State.setPins_out : (s.setPins v).out = s.out := rfl
@[simp] theorem State.setPins_ind : (s.setPins v).ind = s.ind := rfl
@[simp] theorem State.setPins_hal : (s.setPins v).hal = s.hal := rfl
@[simp] theorem State.setPins_pins : (s.setPins v).pins = v := rfl
@[simp] theorem State.setPins_trace : (s.setPins v).trace = s.trace := rfl
@[simp] theorem State.setPins_events : (s.setPins v).events = s.events := rfl
@[simp] theorem State.setPins_booted : (s.setPins v).booted = s.booted := rfl

end

/-! ### setEvents -/

section
variable (v : List Event)

@[simp] theorem State.setEvents_bs : (s.setEvents v).bs = s.bs := rfl
@[simp] theorem State.setEvents_f : (s.setEvents v).f = s.f := rfl
@[simp] theorem State.setEvents_g : (s.setEvents v).g = s.g := rfl
@[simp] theorem State.setEvents_phase : (s.setEvents v).phase = s.phase := rfl
@[simp] theorem State.setEvents_out : (s.setEvents v).out = s.out := rfl
@[simp] theorem State.setEvents_ind : (s.setEvents v).ind = s.ind := rfl
@[simp] theorem State.setEvents_hal : (s.setEvents v).hal = s.hal := rfl
@[simp] theorem State.setEvents_pins : (s.setEvents v).pins = s.pins := rfl
@[simp] theorem State.setEvents_trace : (s.setEvents v).trace = s.trace := rfl
@[simp] theorem State.setEvents_events : (s.setEvents v).events = v := rfl
@[simp] theorem State.setEvents_booted : (s.setEvents v).booted = s.booted := rfl

end

/-! ### setBooted -/

section
variable (v : Bool)

@[simp] theorem State.setBooted_bs : (s.setBooted v).bs = s.bs := rfl
@[simp] theorem State.setBooted_f : (s.setBooted v).f = s.f := rfl
@[simp] theorem State.setBooted_g : (s.setBooted v).g = s.g := rfl
@[simp] theorem State.setBooted_phase : (s.setBooted v).phase = s.phase := rfl
@[simp] theorem State.setBooted_out : (s.setBooted v).out = s.out := rfl
@[simp] theorem State.setBooted_ind : (s.setBooted v).ind = s.ind := rfl
@[simp] theorem State.setBooted_hal : (s.setBooted v).hal = s.hal := rfl
@[simp] theorem State.setBooted_pins : (s.setBooted v).pins = s.pins := rfl
@[simp] theorem State.setBooted_trace : (s.setBooted v).trace = s.trace := rfl
@[simp] theorem State.setBooted_events : (s.setBooted v).events = s.events := rfl
@[simp] theorem State.setBooted_booted : (s.setBooted v).booted = v := rfl

end

/-! ### emitted -/

section
variable (e : HalEvent)

@[simp] theorem State.emitted_bs : (s.emitted e).bs = s.bs := rfl
@[simp] theorem State.emitted_f : (s.emitted e).f = s.f := rfl
@[simp] theorem State.emitted_g : (s.emitted e).g = s.g := rfl
@[simp] theorem State.emitted_phase : (s.emitted e).phase = s.phase := rfl
@[simp] theorem State.emitted_out : (s.emitted e).out = eventOut e s.out := rfl
@[simp] theorem State.emitted_ind : (s.emitted e).ind = eventInd e s.ind := rfl
@[simp] theorem State.emitted_hal : (s.emitted e).hal = eventHal e s.hal := rfl
@[simp] theorem State.emitted_pins : (s.emitted e).pins = s.pins := rfl
@[simp] theorem State.emitted_trace : (s.emitted e).trace = s.trace ++ [e] := rfl
@[simp] theorem State.emitted_events : (s.emitted e).events = s.events := rfl
@[simp] theorem State.emitted_booted : (s.emitted e).booted = s.booted := rfl

end

/-! ### The button array -/

@[simp] theorem Buttons.get_set_same (bs : Buttons) (b : Button) (v : ButtonState) :
    (bs.set b v).get b = v := by cases b <;> rfl

@[simp] theorem Buttons.get_set_other (bs : Buttons) (b c : Button) (v : ButtonState)
    (h : c ≠ b) : (bs.set b v).get c = bs.get c := by
  cases b <;> cases c <;> first | rfl | exact absurd rfl h

end Sys2Proof.Machine
end

