-- ==== Sys2Proof/Laws/Ops.lean ====
section
/-! SUPPORT. The default parameters, and what sequencing and `emit` can do, said once. -/

namespace Sys2Proof.Machine

@[simp] theorem params_pressThreshold : params.pressThreshold = 1 := rfl

@[simp] theorem params_longPressThreshold : params.longPressThreshold = 10 := rfl

@[simp] theorem params_divCount : params.divCount = 4 := rfl

@[simp] theorem params_defaultIndex : params.defaultIndex = 1 := rfl

@[simp] theorem params_buttonTable : params.buttonTable = defaultButtonTable := rfl

theorem params_wellFormed : paramsWellFormed params = true := by decide

@[simp] theorem andThen_next (s : State) (k : State → Result) : andThen (.next s) k = k s := rfl

@[simp] theorem andThen_refused (r : Refusal) (k : State → Result) :
    andThen (.refused r) k = .refused r := rfl

/-- A sequence answers a next state exactly when its first part does and the rest does from there. -/
theorem andThen_eq_next {o : Result} {k : State → Result} {t : State} :
    andThen o k = .next t ↔ ∃ u, o = .next u ∧ k u = .next t := by
  constructor
  · intro h
    cases o with
    | next u => exact ⟨u, rfl, h⟩
    | fault e => cases e
    | refused r => cases h
  · rintro ⟨u, rfl, h⟩
    exact h

theorem andThen_assoc (o : Result) (k l : State → Result) :
    andThen (andThen o k) l = andThen o fun s => andThen (k s) l := by
  cases o <;> rfl

/-- A pin write with the waveform generator off, or any other event, goes through. -/
theorem emit_next {e : HalEvent} {s : State} (h : pinClash e s.hal.gen = false) :
    emit e s = .next (s.emitted e) := by simp [emit, h]

/-- All that `emit` can do. -/
theorem emit_cases (e : HalEvent) (s : State) :
    (pinClash e s.hal.gen = false ∧ emit e s = .next (s.emitted e)) ∨
    (pinClash e s.hal.gen = true ∧ emit e s = .refused .writePinWhileFast) := by
  cases h : pinClash e s.hal.gen <;> simp [emit, h]

/-- If `emit` answers a next state, it is the emitted one. -/
theorem emit_inv {e : HalEvent} {s t : State} (h : emit e s = .next t) : t = s.emitted e := by
  rcases emit_cases e s with ⟨_, h'⟩ | ⟨_, h'⟩ <;> rw [h'] at h <;> cases h
  rfl

@[simp] theorem pinClash_writePin_stopped (l : Level) : pinClash (.writePin l) .stopped = false :=
  rfl

@[simp] theorem pinClash_writePin_slow (l : Level) : pinClash (.writePin l) .slow = false := rfl

@[simp] theorem pinClash_writePin_fast (l : Level) : pinClash (.writePin l) .fast = true := rfl

@[simp] theorem pinClash_stop (h : HalGen) : pinClash .stopAllGeneration h = false := rfl

@[simp] theorem pinClash_slowTimer (p r : Nat) (h : HalGen) :
    pinClash (.configureSlowTimer p r) h = false := rfl

@[simp] theorem pinClash_fastPwm (p r d : Nat) (h : HalGen) :
    pinClash (.configureFastPwm p r d) h = false := rfl

@[simp] theorem pinClash_setIndicator (c : Indicator) (h : HalGen) :
    pinClash (.setIndicator c) h = false := rfl

@[simp] theorem pinClash_delay (d : ℕ+) (h : HalGen) : pinClash (.delay d) h = false := rfl

/-- A pin write clashes exactly with the running waveform generator. -/
theorem pinClash_writePin_of_ne_fast {h : HalGen} (l : Level) (hn : h ≠ .fast) :
    pinClash (.writePin l) h = false := by
  cases h <;> first | rfl | exact absurd rfl hn

@[simp] theorem emitAll_nil (s : State) : emitAll [] s = .next s := rfl

@[simp] theorem emitAll_cons (e : HalEvent) (es : List HalEvent) (s : State) :
    emitAll (e :: es) s = andThen (emit e s) (emitAll es) := rfl

end Sys2Proof.Machine
end

