-- ==== Sys2Proof/Laws/Buttons.lean ====
section
/-! SUPPORT. What a sample and a clear can do to a button record, said once. -/

namespace Sys2Proof.Machine

/-- Reading any button after a sample of one of them. -/
theorem updateButton_get (p : Params) (b c : Button) (smp : Sample) (s : State) :
    ((updateButton p b smp s).bs.get c) =
      if c = b then updateRecord p smp (s.bs.get b) else s.bs.get c := by
  by_cases h : c = b
  · subst h; simp [updateButton]
  · simp [updateButton, h]

/-- A sample changes the button array alone. -/
theorem updateButton_frame (p : Params) (b : Button) (smp : Sample) (s : State) :
    updateButton p b smp s = { s with bs := (updateButton p b smp s).bs } := rfl

/-- A `Pressed` sample below the clamp counts, and latches at the thresholds (R100). -/
theorem pressRecord_below {p : Params} {r : ButtonState}
    (h : r.pressedCounter < p.longPressThreshold) :
    pressRecord p r =
      { pressedCounter := r.pressedCounter + 1
        pressed := latchAt r.pressed (r.pressedCounter + 1) p.pressThreshold
        longPressed := latchAt r.longPressed (r.pressedCounter + 1) p.longPressThreshold
        clicked := r.clicked
        lastPinState := .pressed } := by
  simp [pressRecord, h]

/-- A `Pressed` sample at the clamp only records itself (R100 corner case a). -/
theorem pressRecord_clamped {p : Params} {r : ButtonState}
    (h : ¬ r.pressedCounter < p.longPressThreshold) :
    pressRecord p r = { r with lastPinState := .pressed } := by
  simp [pressRecord, h]

/-- No sample clears a latch (R106). -/
theorem updateRecord_keeps_latches (p : Params) (smp : Sample) (r : ButtonState) :
    (r.pressed = true → (updateRecord p smp r).pressed = true) ∧
    (r.longPressed = true → (updateRecord p smp r).longPressed = true) ∧
    (r.clicked = true → (updateRecord p smp r).clicked = true) := by
  cases smp
  · simp +contextual [updateRecord, releaseRecord, clickedAfterRelease]
  · by_cases h : r.pressedCounter < p.longPressThreshold
    · simp +contextual [updateRecord, pressRecord_below h, latchAt]
    · simp [updateRecord, pressRecord_clamped h]

/-- The last sample is recorded, whatever it was (R23). -/
theorem updateRecord_lastPinState (p : Params) (smp : Sample) (r : ButtonState) :
    (updateRecord p smp r).lastPinState = smp := by
  cases smp
  · rfl
  · by_cases h : r.pressedCounter < p.longPressThreshold
    · simp [updateRecord, pressRecord_below h]
    · simp [updateRecord, pressRecord_clamped h]

/-- What the three clears write, and to which button. -/
theorem clearPressed_get (b c : Button) (s : State) :
    (clearPressed b s).bs.get c =
      if c = b then { s.bs.get b with pressed := false } else s.bs.get c := by
  by_cases h : c = b
  · subst h; simp [clearPressed]
  · simp [clearPressed, h]

theorem clearClicked_get (b c : Button) (s : State) :
    (clearClicked b s).bs.get c =
      if c = b then { s.bs.get b with clicked := false } else s.bs.get c := by
  by_cases h : c = b
  · subst h; simp [clearClicked]
  · simp [clearClicked, h]

theorem clearLongPressed_get (b c : Button) (s : State) :
    (clearLongPressed b s).bs.get c =
      if c = b then { s.bs.get b with longPressed := false } else s.bs.get c := by
  by_cases h : c = b
  · subst h; simp [clearLongPressed]
  · simp [clearLongPressed, h]

/-- The identifier of a button selects it, and only identifiers of buttons select one. -/
theorem buttonOf_eq_some {id : ButtonId} {b : Button} : buttonOf id = some b ↔ id = idOf b := by
  cases id <;> cases b <;> decide

end Sys2Proof.Machine
end

