-- ==== Sys2Proof/Laws/Generator.lean ====
section
/-! SUPPORT. What the generator's procedures can do, said once: the frequency table by regime, the
results of the three internal procedures, and the frame of every generator operation. -/

namespace Sys2Proof.Machine

/-! ## The table by regime -/

theorem lookup_slow {i : FreqIndex} (h : i ≤ 4) :
    lookup i = .slow (Config.ftPrescale i) (Config.ftReload i) := by
  simp [lookup, regimeOf, slowMaxIndex, h]

theorem lookup_fast {i : FreqIndex} (h : 5 ≤ i) :
    lookup i = .fast (Config.ftPrescale i) (Config.ftPeriod i) (Config.ftDuty i) := by
  have h' : ¬ i ≤ 4 := by revert i; decide
  simp [lookup, regimeOf, slowMaxIndex, h']

/-- Every level is slow or fast. -/
theorem slow_or_fast (i : FreqIndex) : i ≤ 4 ∨ 5 ≤ i := by revert i; decide

/-! ## Results of the procedures -/

theorem reconfigure_manual {s : State} (h : s.g.mode = .manual) :
    reconfigure s = .next (s.emitted .stopAllGeneration) := by
  simp [reconfigure, h, emit]

theorem reconfigure_slow {s : State} (h : s.g.mode = .auto) (hi : s.g.freqIndex ≤ 4) :
    reconfigure s = .next ((s.setOvfCount 0).emitted
      (.configureSlowTimer (Config.ftPrescale s.g.freqIndex) (Config.ftReload s.g.freqIndex))) := by
  simp [reconfigure, h, lookup_slow hi, configEvents, emit]

theorem reconfigure_fast {s : State} (h : s.g.mode = .auto) (hi : 5 ≤ s.g.freqIndex) :
    reconfigure s = .next (((s.setOvfCount 0).emitted
      (.configureFastPwm (Config.ftPrescale s.g.freqIndex) (Config.ftPeriod s.g.freqIndex)
        (Config.ftDuty s.g.freqIndex))).emitted (.setIndicator .autoYellow)) := by
  simp [reconfigure, h, lookup_fast hi, configEvents, emit]

/-- A toggle to a level completes unless the waveform generator runs. -/
theorem toggleTo_next {s : State} (lvl : Level) (h : s.hal.gen ≠ .fast) :
    toggleTo lvl s = .next (((s.setGenState (slowState lvl)).emitted (.writePin lvl)).emitted (.setIndicator (toggleColour s.g.freqIndex lvl))) := by
  simp [toggleTo, emit, pinClash_writePin_of_ne_fast lvl h]

theorem slowToggle_from_high {s : State} (h : s.g.state = .slowAutoHigh) :
    slowToggle s = toggleTo .low s := by simp [slowToggle, h]

theorem slowToggle_from_other {s : State} (h : s.g.state ≠ .slowAutoHigh) :
    slowToggle s = toggleTo .high s := by
  cases hs : s.g.state <;> simp_all [slowToggle]

theorem autoStep_slow {s : State} (h : s.g.freqIndex ≤ 4) : autoStep s = slowToggle s := by
  simp [autoStep, lookup_slow h, RegimeConfig.regime]

theorem autoStep_fast {s : State} (h : 5 ≤ s.g.freqIndex) :
    autoStep s = .next (s.setGenState .fastAuto) := by
  simp [autoStep, lookup_fast h, RegimeConfig.regime]

/-- At a slow index the regime is followed by a toggle exactly from FastAuto. -/
theorem followRegime_slow {s : State} (h : s.g.freqIndex ≤ 4) :
    followRegime s = if s.g.state = .fastAuto then slowToggle s else .next s := by
  by_cases hs : s.g.state = .fastAuto <;>
    simp [followRegime, regimeMismatch, lookup_slow h, RegimeConfig.regime, autoStep_slow h, hs]

/-- At a fast index the state follows to FastAuto, which it may be already. -/
theorem followRegime_fast {s : State} (h : 5 ≤ s.g.freqIndex) :
    followRegime s = .next (s.setGenState .fastAuto) := by
  by_cases hs : s.g.state = .fastAuto
  · have : s.setGenState .fastAuto = s := by simp [State.setGenState, ← hs]
    simp [followRegime, regimeMismatch, lookup_fast h, RegimeConfig.regime, hs, this]
  · simp [followRegime, regimeMismatch, lookup_fast h, RegimeConfig.regime, autoStep_fast h, hs]

/-! ## The frame of a generator operation -/

/-- What every generator operation keeps: all but `G`, `HAL`, `OUT`, `IND`, and a `TRACE` that only
grows, by events that explain the change of the hardware and never show `Off`. -/
structure GenFrame (s t : State) : Prop where
  bs : t.bs = s.bs
  f : t.f = s.f
  phase : t.phase = s.phase
  pins : t.pins = s.pins
  events : t.events = s.events
  booted : t.booted = s.booted
  hardware : ∃ es : List HalEvent, t.trace = s.trace ++ es ∧ HalEvent.setIndicator .off ∉ es ∧
    t.hal = es.foldl (fun h e => eventHal e h) s.hal ∧
    t.out = es.foldl (fun o e => eventOut e o) s.out ∧
    t.ind = es.foldl (fun c e => eventInd e c) s.ind

theorem GenFrame.refl (s : State) : GenFrame s s :=
  ⟨rfl, rfl, rfl, rfl, rfl, rfl, [], by simp⟩

theorem GenFrame.trans {s t u : State} (h₁ : GenFrame s t) (h₂ : GenFrame t u) : GenFrame s u := by
  obtain ⟨es, htr, hoff, hhal, hout, hind⟩ := h₁.hardware
  obtain ⟨fs, htr', hoff', hhal', hout', hind'⟩ := h₂.hardware
  refine ⟨h₂.bs.trans h₁.bs, h₂.f.trans h₁.f, h₂.phase.trans h₁.phase, h₂.pins.trans h₁.pins,
    h₂.events.trans h₁.events, h₂.booted.trans h₁.booted, es ++ fs, ?_⟩
  simp [htr, htr', hoff, hoff', hhal, hhal', hout, hout', hind, hind']

/-- A write to `G` alone is within the frame. -/
theorem GenFrame.of_g {s t : State} (h : t = { s with g := t.g }) : GenFrame s t := by
  rw [h]; exact ⟨rfl, rfl, rfl, rfl, rfl, rfl, [], by simp⟩

theorem setMode_frame (s : State) (v : GenMode) : GenFrame s (s.setMode v) := .of_g rfl

theorem setGenState_frame (s : State) (v : GenState) : GenFrame s (s.setGenState v) := .of_g rfl

theorem setFreqIndex_frame (s : State) (v : FreqIndex) : GenFrame s (s.setFreqIndex v) := .of_g rfl

theorem setOvfCount_frame (s : State) (v : BitVec 8) : GenFrame s (s.setOvfCount v) := .of_g rfl

theorem emit_frame {e : HalEvent} {s t : State} (he : e ≠ .setIndicator .off)
    (h : emit e s = .next t) : GenFrame s t := by
  obtain rfl := emit_inv h
  exact ⟨rfl, rfl, rfl, rfl, rfl, rfl, [e], by simp [he.symm]⟩

theorem emitAll_frame {es : List HalEvent} {s t : State} (he : HalEvent.setIndicator .off ∉ es)
    (h : emitAll es s = .next t) : GenFrame s t := by
  induction es generalizing s with
  | nil => cases h; exact .refl _
  | cons e es ih =>
    obtain ⟨u, hu, ht⟩ := andThen_eq_next.1 h
    simp only [List.mem_cons, not_or] at he
    exact (emit_frame (Ne.symm he.1) hu).trans (ih he.2 ht)

theorem andThen_frame {o : Result} {k : State → Result} {s t : State}
    (ho : ∀ {u}, o = .next u → GenFrame s u) (hk : ∀ {u}, k u = .next t → GenFrame u t)
    (h : andThen o k = .next t) : GenFrame s t := by
  obtain ⟨u, hu, ht⟩ := andThen_eq_next.1 h
  exact (ho hu).trans (hk ht)

theorem reconfigure_frame {s t : State} (h : reconfigure s = .next t) : GenFrame s t := by
  cases hm : s.g.mode with
  | manual => rw [reconfigure, hm] at h; exact emit_frame (by decide) h
  | auto =>
    rw [reconfigure, hm] at h
    refine (setOvfCount_frame s 0).trans (emitAll_frame ?_ h)
    cases lookup s.g.freqIndex <;> simp [configEvents]

theorem toggleColour_ne_off (i : FreqIndex) (lvl : Level) : toggleColour i lvl ≠ .off := by
  cases lvl <;> unfold toggleColour <;> split <;> decide

theorem toggleTo_frame {lvl : Level} {s t : State} (h : toggleTo lvl s = .next t) :
    GenFrame s t :=
  (setGenState_frame s _).trans (emitAll_frame (by
    simp [(toggleColour_ne_off s.g.freqIndex lvl).symm]) h)

theorem slowToggle_frame {s t : State} (h : slowToggle s = .next t) : GenFrame s t := by
  by_cases hs : s.g.state = .slowAutoHigh
  · rw [slowToggle_from_high hs] at h; exact toggleTo_frame h
  · rw [slowToggle_from_other hs] at h; exact toggleTo_frame h

theorem autoStep_frame {s t : State} (h : autoStep s = .next t) : GenFrame s t := by
  rcases slow_or_fast s.g.freqIndex with hi | hi
  · rw [autoStep_slow hi] at h; exact slowToggle_frame h
  · rw [autoStep_fast hi] at h; cases h; exact setGenState_frame s _

theorem enterAuto_frame {s t : State} (h : enterAuto s = .next t) : GenFrame s t :=
  ((setMode_frame s _).trans (setGenState_frame _ _)).trans
    (andThen_frame reconfigure_frame autoStep_frame h)

theorem followRegime_frame {s t : State} (h : followRegime s = .next t) : GenFrame s t := by
  unfold followRegime at h
  split at h
  · exact autoStep_frame h
  · cases h; exact .refl _

theorem changeIndex_frame {i : FreqIndex} {s t : State} (h : changeIndex i s = .next t) :
    GenFrame s t :=
  (setFreqIndex_frame s i).trans (andThen_frame reconfigure_frame followRegime_frame h)

theorem genSetAuto_frame {s t : State} (h : genSetAuto s = .next t) : GenFrame s t := by
  cases hm : s.g.mode with
  | auto => rw [genSetAuto, hm] at h; cases h; exact .refl _
  | manual => rw [genSetAuto, hm] at h; exact enterAuto_frame h

theorem manualColour_ne_off (lvl : Level) : manualColour lvl ≠ .off := by cases lvl <;> decide

theorem settleManual_frame {lvl : Level} {s t : State} (h : settleManual lvl s = .next t) :
    GenFrame s t := by
  refine andThen_frame (emitAll_frame ?_) (andThen_frame (emit_frame (by simp)) fun {u} hu => ?_) h
  · unfold pulseEvents
    split <;> simp [(manualColour_ne_off _).symm]
  · exact (setGenState_frame u _).trans (emit_frame (by simp [manualColour_ne_off]) hu)

theorem genSetManual_frame {lvl : Level} {s t : State} (h : genSetManual lvl s = .next t) :
    GenFrame s t := by
  cases hm : s.g.mode with
  | auto =>
    rw [genSetManual, hm] at h
    exact (setMode_frame s _).trans (andThen_frame reconfigure_frame settleManual_frame h)
  | manual => rw [genSetManual, hm] at h; exact settleManual_frame h

theorem genToggleMode_frame {s t : State} (h : genToggleMode s = .next t) : GenFrame s t := by
  cases hm : s.g.mode with
  | auto => rw [genToggleMode, hm] at h; exact genSetManual_frame h
  | manual => rw [genToggleMode, hm] at h; exact genSetAuto_frame h

theorem stepIndex_frame {n : FreqIndex → Option FreqIndex} {s t : State}
    (h : stepIndex n s = .next t) : GenFrame s t := by
  unfold stepIndex at h
  split at h
  · cases h; exact .refl _
  · split at h
    · cases h; exact .refl _
    · exact changeIndex_frame h

theorem countOverflow_frame {p : Params} {s t : State} (h : countOverflow p s = .next t) :
    GenFrame s t := by
  unfold countOverflow at h
  split at h
  · exact (setOvfCount_frame s _).trans (slowToggle_frame h)
  · cases h; exact setOvfCount_frame s _

theorem genOvf_frame {p : Params} {s t : State} (h : genOvf p s = .next t) : GenFrame s t := by
  unfold genOvf at h
  split at h
  · split at h
    · exact countOverflow_frame h
    · exact slowToggle_frame h
  · cases h; exact .refl _
  · cases h; exact .refl _

theorem genStopFast_frame {s t : State} (h : genStopFast s = .next t) : GenFrame s t :=
  emitAll_frame (by simp) h

theorem genStop_frame {s t : State} (h : genStop s = .next t) : GenFrame s t :=
  andThen_frame genStopFast_frame (fun {u} hu =>
    ((setMode_frame u _).trans (setGenState_frame _ _)).trans (emit_frame (by simp) hu)) h

/-- The frame of every operation a button may call. -/
theorem runGenOp_frame {p : Params} {op : GenOp} {s t : State} (h : runGenOp p op s = .next t) :
    GenFrame s t := by
  cases op with
  | init => exact (setFreqIndex_frame s _).trans (enterAuto_frame h)
  | toggleMode => exact genToggleMode_frame h
  | setAuto => exact genSetAuto_frame h
  | freqUp => exact stepIndex_frame h
  | freqDown => exact stepIndex_frame h
  | ovf => exact genOvf_frame h
  | stop => exact genStop_frame h
  | stopFast => exact genStopFast_frame h
  | setManual lvl => exact genSetManual_frame h

end Sys2Proof.Machine
end

