-- ==== Sys2Proof/Laws/Dispatcher.lean ====
section
/-! SUPPORT. What a step of the dispatcher can do, said once. -/

namespace Sys2Proof.Machine

/-- Acting on a button and clearing its latch: nothing or an operation of the table, then the
clear. -/
theorem serveButton_cases {p : Params} {b : Button} {s t : State}
    (h : serveButton p b s = .next t) :
    ((s.bs.get b).pressed = false ∧ t = s) ∨
    ((s.bs.get b).pressed = true ∧ ∃ u,
      runGenOp p (actionOp p.buttonTable b s.g.mode) s = .next u ∧ t = clearPressed b u) := by
  cases hp : (s.bs.get b).pressed with
  | true =>
    rw [serveButton, if_pos hp] at h
    obtain ⟨u, hu, ht⟩ := andThen_eq_next.1 h
    cases ht
    exact .inr ⟨rfl, u, hu, rfl⟩
  | false =>
    rw [serveButton, if_neg (by simp [hp])] at h
    cases h
    exact .inl ⟨rfl, rfl⟩

/-- The three turns of step 3's loop, one after the other. -/
theorem serveButtons_cases {p : Params} {s t : State} (h : serveButtons p s = .next t) :
    ∃ u v, serveButton p .up s = .next u ∧ serveButton p .down u = .next v ∧
      serveButton p .mode v = .next t := by
  obtain ⟨u, hu, h⟩ := andThen_eq_next.1 h
  obtain ⟨v, hv, h⟩ := andThen_eq_next.1 h
  exact ⟨u, v, hu, hv, h⟩

/-- All that `DSP.STEP` can do: a step with its flag 0 only moves `PHASE`, and each of the others
does its work from the state with the flag it consumes cleared or kept as R171 to R173 say. -/
theorem dspStep_cases {p : Params} {s t : State} (h : dspStep p s = .next t) :
    (s.phase = .one ∧ s.f.timer1Overflow = false ∧ t = s.setPhase .two) ∨
    (s.phase = .one ∧ s.f.timer1Overflow = true ∧ s.f.stopGenerator = true ∧
      t = (s.setTimer1Overflow false).setPhase .two) ∨
    (s.phase = .one ∧ s.f.timer1Overflow = true ∧ s.f.stopGenerator = false ∧
      ∃ u, genOvf p s = .next u ∧ t = (u.setTimer1Overflow false).setPhase .two) ∨
    (s.phase = .two ∧ s.f.stopGenerator = false ∧ t = s.setPhase .three) ∨
    (s.phase = .two ∧ s.f.stopGenerator = true ∧
      ∃ u, genStop (s.setStopGenerator false) = .next u ∧ t = u.setPhase .three) ∨
    (s.phase = .three ∧ s.f.readButtons = false ∧ t = s.setPhase .one) ∨
    (s.phase = .three ∧ s.f.readButtons = true ∧
      ∃ u, serveButtons p (sampleButtons p (s.setReadButtons false)) = .next u ∧
        t = u.setPhase .one) := by
  cases hp : s.phase <;> rw [dspStep, hp] at h <;> obtain ⟨u, hu, ht⟩ := andThen_eq_next.1 h <;>
    cases ht
  · cases hf : s.f.timer1Overflow <;> cases hs : s.f.stopGenerator <;>
      simp [step1, hf, hs] at hu
    · subst hu; simp
    · subst hu; simp
    · obtain ⟨v, hv, hw⟩ := andThen_eq_next.1 hu
      cases hw
      simp [hv]
    · subst hu; simp
  · cases hs : s.f.stopGenerator <;> simp [step2, hs] at hu
    · subst hu; simp
    · simp [hu]
  · cases hb : s.f.readButtons <;> simp [step3, hb] at hu
    · subst hu; simp
    · simp [hu]

end Sys2Proof.Machine
end

