-- ==== Sys2Proof/Laws/Step.lean ====
section
/-! SUPPORT. What the decoder, the fetch and a step can do, said once. -/

namespace Sys2Proof

theorem buttonIdOfCode_code (id : ButtonId) : buttonIdOfCode (buttonIdCode id) = id := by
  cases id <;> rfl

/-- Decoding one byte is decoding its word. -/
theorem decode_one (w : Byte) :
    decode [w] = match decodeWord w with
      | .ok i => .ok (i, [])
      | .error e => .error e := rfl

end Sys2Proof

namespace Sys2Proof.Machine

/-- What a presented word becomes. -/
theorem fetchWord_cases (w : Byte) (s : State) :
    ((∃ e, decodeWord w = .error e) ∧ fetchWord w s = .refuse (.reservedWord w)) ∨
    (∃ i, decodeWord w = .ok i ∧ admitted i s = true ∧ fetchWord w s = .run i s) ∨
    (∃ i, decodeWord w = .ok i ∧ admitted i s = false ∧
      fetchWord w s = .refuse (.beforeBoot w)) := by
  unfold fetchWord
  rw [decode_one]
  cases hd : decodeWord w with
  | error e => exact .inl ⟨⟨e, rfl⟩, rfl⟩
  | ok i => cases ha : admitted i s <;> simp [ha]

/-- All that a step which goes on can have done: the reset, or one instruction. -/
theorem step_cases {s t : State} (h : step s = .next t) :
    (∃ rest, s.events = .reset :: rest ∧ t = resetEvent (s.setEvents rest)) ∨
    (∃ i u v, (u = s ∧ s.events = [] ∧ i = freeRunning s ∨
        ∃ w rest, s.events = .word w :: rest ∧ u = s.setEvents rest ∧ decodeWord w = .ok i) ∧
      exec i u = .next v ∧ t = afterInstr i v) := by
  unfold step fetch at h
  split at h
  case h_1 i u hf =>
    obtain ⟨v, hv, ht⟩ := andThen_eq_next.1 h
    cases ht
    refine .inr ⟨i, u, v, ?_, hv, rfl⟩
    split at hf
    · cases hf; exact .inl ⟨rfl, ‹_›, rfl⟩
    · cases hf
    · rename_i w rest he
      rcases fetchWord_cases w (s.setEvents rest) with ⟨_, h'⟩ | ⟨j, hd, _, h'⟩ | ⟨_, _, _, h'⟩ <;>
        rw [h'] at hf <;> cases hf
      exact .inr ⟨w, rest, he, rfl, hd⟩
  case h_2 u hf =>
    cases h
    split at hf
    · cases hf
    · cases hf; exact .inl ⟨_, ‹_›, rfl⟩
    · rename_i w rest he
      rcases fetchWord_cases w (s.setEvents rest) with ⟨_, h'⟩ | ⟨_, _, _, h'⟩ | ⟨_, _, _, h'⟩ <;>
        rw [h'] at hf <;> cases hf
  case h_3 => cases h

/-- What the step does around an instruction touches `booted` alone. -/
theorem afterInstr_eq (i : Instr) (s : State) :
    afterInstr i s = s.setBooted (s.booted || i == .genInit) := by
  obtain ⟨bs, f, g, ph, o, d, h, p, tr, ev, booted⟩ := s
  cases booted <;> cases i <;> rfl

end Sys2Proof.Machine
end

