-- ==== Sys2Proof/Laws/Run.lean ====
section
/-! SUPPORT. The small laws of runs. -/

namespace Sys2Proof.Machine

@[simp] theorem takeEvents_nil (s : State) : takeEvents [] s = .next s := rfl

@[simp] theorem takeEvents_cons (e : Event) (es : List Event) (s : State) :
    takeEvents (e :: es) s = andThen (takeEvent e s) (takeEvents es) := rfl

theorem takeEvents_append (es fs : List Event) (s : State) :
    takeEvents (es ++ fs) s = andThen (takeEvents es s) (takeEvents fs) := by
  induction es generalizing s with
  | nil => rfl
  | cons e es ih =>
    simp only [List.cons_append, takeEvents_cons, andThen_assoc]
    congr 1
    funext t
    exact ih t

@[simp] theorem steps_zero (s : State) : steps 0 s = .next s := rfl

@[simp] theorem steps_succ (n : Nat) (s : State) : steps (n + 1) s = andThen (step s) (steps n) := rfl

/-- The first `n + 1` events are the first `n` and the one at place `n`, if there is one. -/
theorem EventSequence.take_succ (r : EventSequence) (n : Nat) :
    r.take (n + 1) = r.take n ++ (r.at? n).toList := by
  cases r with
  | finite es => exact List.take_add_one
  | infinite es => simp [take, at?, List.range_succ]

/-- One more event of a run. -/
theorem afterEvents_succ (r : EventSequence) (n : Nat) (s : State) :
    afterEvents r (n + 1) s = andThen (afterEvents r n s) (takeEvents (r.at? n).toList) := by
  rw [afterEvents, EventSequence.take_succ, takeEvents_append, afterEvents]

@[simp] theorem observed_events (s : State) : (observed s).events = [] := rfl

@[simp] theorem observed_trace (s : State) : (observed s).trace = s.trace := rfl

end Sys2Proof.Machine
end

