-- ==== Sys2Proof/Laws/Events.lean ====
section
/-! SUPPORT. No operation reads or writes the events still to come, said once per operation. -/

namespace Sys2Proof.Machine

/-- An answer with other events to come. -/
def withEvents (es : List Event) : Result → Result
  | .next s => .next (s.setEvents es)
  | .fault e => .fault e
  | .refused r => .refused r

/-- An operation neither reads nor writes the events to come. -/
def IgnoresEvents (k : State → Result) : Prop :=
  ∀ s es, k (s.setEvents es) = withEvents es (k s)

theorem IgnoresEvents.andThen {k l : State → Result} (hk : IgnoresEvents k)
    (hl : IgnoresEvents l) : IgnoresEvents fun s => andThen (k s) l := by
  intro s es
  simp only [hk s es]
  cases k s with
  | next u => exact hl u es
  | fault e => rfl
  | refused r => rfl

theorem ignoresEvents_next {f : State → State}
    (h : ∀ s es, f (s.setEvents es) = (f s).setEvents es) : IgnoresEvents fun s => .next (f s) :=
  fun s es => by simp [withEvents, h]

theorem IgnoresEvents.comp {k : State → Result} (hk : IgnoresEvents k) {f : State → State}
    (h : ∀ s es, f (s.setEvents es) = (f s).setEvents es) : IgnoresEvents fun s => k (f s) :=
  fun s es => by simp only [h, hk (f s) es]

/-! ## HAL events -/

theorem emit_ignoresEvents (e : HalEvent) : IgnoresEvents (emit e) := by
  intro s es
  cases h : pinClash e s.hal.gen <;> simp only [emit, State.setEvents_hal, h] <;> rfl

theorem emitAll_ignoresEvents (l : List HalEvent) : IgnoresEvents (emitAll l) := by
  induction l with
  | nil => exact fun _ _ => rfl
  | cons e l ih => exact (emit_ignoresEvents e).andThen ih

/-! ## Generator -/

theorem reconfigure_ignoresEvents : IgnoresEvents reconfigure := by
  intro s es
  simp only [reconfigure, State.setEvents_g]
  cases s.g.mode
  · exact emit_ignoresEvents _ s es
  · exact emitAll_ignoresEvents _ (s.setOvfCount 0) es

theorem toggleTo_ignoresEvents (lvl : Level) : IgnoresEvents (toggleTo lvl) := fun s es =>
  emitAll_ignoresEvents _ (s.setGenState (slowState lvl)) es

theorem slowToggle_ignoresEvents : IgnoresEvents slowToggle := by
  intro s es
  simp only [slowToggle, State.setEvents_g]
  cases s.g.state <;> exact toggleTo_ignoresEvents _ s es

theorem autoStep_ignoresEvents : IgnoresEvents autoStep := by
  intro s es
  simp only [autoStep, State.setEvents_g]
  cases (lookup s.g.freqIndex).regime
  · exact slowToggle_ignoresEvents s es
  · rfl

theorem enterAuto_ignoresEvents : IgnoresEvents enterAuto :=
  (reconfigure_ignoresEvents.comp fun _ _ => rfl).andThen autoStep_ignoresEvents

theorem followRegime_ignoresEvents : IgnoresEvents followRegime := by
  intro s es
  have same : regimeMismatch (s.setEvents es) = regimeMismatch s := rfl
  cases h : regimeMismatch s <;> simp only [followRegime, same, h]
  · rfl
  · exact autoStep_ignoresEvents s es

theorem changeIndex_ignoresEvents (i : FreqIndex) : IgnoresEvents (changeIndex i) :=
  (reconfigure_ignoresEvents.comp fun _ _ => rfl).andThen followRegime_ignoresEvents

theorem genInit_ignoresEvents (p : Params) : IgnoresEvents (genInit p) :=
  enterAuto_ignoresEvents.comp fun _ _ => rfl

theorem genSetAuto_ignoresEvents : IgnoresEvents genSetAuto := by
  intro s es
  simp only [genSetAuto, State.setEvents_g]
  cases s.g.mode
  · exact enterAuto_ignoresEvents s es
  · rfl

theorem settleManual_ignoresEvents (lvl : Level) : IgnoresEvents (settleManual lvl) := fun s es =>
  (emitAll_ignoresEvents (pulseEvents lvl s.g.state)).andThen
    ((emit_ignoresEvents _).andThen ((emit_ignoresEvents _).comp fun _ _ => rfl)) s es

theorem genSetManual_ignoresEvents (lvl : Level) : IgnoresEvents (genSetManual lvl) := by
  intro s es
  simp only [genSetManual, State.setEvents_g]
  cases s.g.mode
  · exact settleManual_ignoresEvents lvl s es
  · exact reconfigure_ignoresEvents.andThen (settleManual_ignoresEvents lvl) (s.setMode .manual) es

theorem genToggleMode_ignoresEvents : IgnoresEvents genToggleMode := by
  intro s es
  simp only [genToggleMode, State.setEvents_g]
  cases s.g.mode
  · exact genSetAuto_ignoresEvents s es
  · exact genSetManual_ignoresEvents _ s es

theorem stepIndex_ignoresEvents (neighbour : FreqIndex → Option FreqIndex) :
    IgnoresEvents (stepIndex neighbour) := by
  intro s es
  simp only [stepIndex, State.setEvents_g]
  cases s.g.mode
  · rfl
  · cases neighbour s.g.freqIndex with
    | none => rfl
    | some i => exact changeIndex_ignoresEvents i s es

theorem countOverflow_ignoresEvents (p : Params) : IgnoresEvents (countOverflow p) := by
  intro s es
  by_cases h : p.divCount ≤ s.g.ovfCount + 1 <;>
    simp only [countOverflow, State.setEvents_g, h, if_true, if_false]
  · exact slowToggle_ignoresEvents (s.setOvfCount 0) es
  · rfl

theorem genOvf_ignoresEvents (p : Params) : IgnoresEvents (genOvf p) := by
  intro s es
  simp only [genOvf, State.setEvents_g]
  cases s.g.mode <;> cases (lookup s.g.freqIndex).regime <;> try rfl
  by_cases h : s.g.freqIndex = divIndex <;> simp only [h, if_true, if_false]
  · exact countOverflow_ignoresEvents p s es
  · exact slowToggle_ignoresEvents s es

theorem genStop_ignoresEvents : IgnoresEvents genStop :=
  (emitAll_ignoresEvents _).andThen ((emit_ignoresEvents _).comp fun _ _ => rfl)

theorem genStopFast_ignoresEvents : IgnoresEvents genStopFast := emitAll_ignoresEvents _

theorem runGenOp_ignoresEvents (p : Params) (op : GenOp) : IgnoresEvents (runGenOp p op) := by
  cases op with
  | init => exact genInit_ignoresEvents p
  | toggleMode => exact genToggleMode_ignoresEvents
  | setAuto => exact genSetAuto_ignoresEvents
  | freqUp => exact stepIndex_ignoresEvents _
  | freqDown => exact stepIndex_ignoresEvents _
  | ovf => exact genOvf_ignoresEvents p
  | stop => exact genStop_ignoresEvents
  | stopFast => exact genStopFast_ignoresEvents
  | setManual lvl => exact genSetManual_ignoresEvents lvl

/-! ## Dispatcher -/

theorem serveButton_ignoresEvents (p : Params) (b : Button) : IgnoresEvents (serveButton p b) := by
  intro s es
  cases h : (s.bs.get b).pressed <;>
    simp only [serveButton, action, State.setEvents_bs, State.setEvents_g, h]
  · rfl
  · exact (runGenOp_ignoresEvents p _).andThen
      (ignoresEvents_next (f := clearPressed b) fun _ _ => rfl) s es

theorem serveButtons_ignoresEvents (p : Params) : IgnoresEvents (serveButtons p) :=
  (serveButton_ignoresEvents p .up).andThen
    ((serveButton_ignoresEvents p .down).andThen (serveButton_ignoresEvents p .mode))

theorem step1_ignoresEvents (p : Params) : IgnoresEvents (step1 p) := by
  intro s es
  cases h : s.f.timer1Overflow <;> cases h' : s.f.stopGenerator <;>
    simp only [step1, State.setEvents_f, h, h'] <;> try rfl
  exact (genOvf_ignoresEvents p).andThen
    (ignoresEvents_next (f := (·.setTimer1Overflow false)) fun _ _ => rfl) s es

theorem step2_ignoresEvents : IgnoresEvents step2 := by
  intro s es
  cases h : s.f.stopGenerator <;> simp only [step2, State.setEvents_f, h]
  · rfl
  · exact genStop_ignoresEvents (s.setStopGenerator false) es

theorem step3_ignoresEvents (p : Params) : IgnoresEvents (step3 p) := by
  intro s es
  cases h : s.f.readButtons <;> simp only [step3, State.setEvents_f, h]
  · rfl
  · exact serveButtons_ignoresEvents p (sampleButtons p (s.setReadButtons false)) es

theorem dspStep_ignoresEvents (p : Params) : IgnoresEvents (dspStep p) := by
  have advance (q : Phase) : IgnoresEvents fun t => .next (t.setPhase q) :=
    ignoresEvents_next (f := (·.setPhase q)) fun _ _ => rfl
  intro s es
  simp only [dspStep, State.setEvents_phase]
  cases s.phase
  · exact (step1_ignoresEvents p).andThen (advance .two) s es
  · exact step2_ignoresEvents.andThen (advance .three) s es
  · exact (step3_ignoresEvents p).andThen (advance .one) s es

/-! ## Instructions and steps -/

theorem onButton_setEvents (id : ButtonId) {op : Button → State → State}
    (h : ∀ b s es, op b (s.setEvents es) = (op b s).setEvents es) (s : State) (es : List Event) :
    onButton id op (s.setEvents es) = (onButton id op s).setEvents es := by
  unfold onButton
  cases buttonOf id <;> simp [h]

/-- No instruction reads or writes the events to come. -/
theorem exec_ignoresEvents (i : Instr) : IgnoresEvents (exec i) := by
  cases i with
  | btnUpdate id smp => exact ignoresEvents_next (onButton_setEvents id fun _ _ _ => rfl)
  | btnClrP id => exact ignoresEvents_next (onButton_setEvents id fun _ _ _ => rfl)
  | btnClrC id => exact ignoresEvents_next (onButton_setEvents id fun _ _ _ => rfl)
  | btnClrL id => exact ignoresEvents_next (onButton_setEvents id fun _ _ _ => rfl)
  | genInit => exact genInit_ignoresEvents params
  | genToggleMode => exact genToggleMode_ignoresEvents
  | genSetAuto => exact genSetAuto_ignoresEvents
  | genFreqUp => exact stepIndex_ignoresEvents _
  | genFreqDown => exact stepIndex_ignoresEvents _
  | genOvf => exact genOvf_ignoresEvents params
  | genStop => exact genStop_ignoresEvents
  | genStopFast => exact genStopFast_ignoresEvents
  | genSetManual lvl => exact genSetManual_ignoresEvents lvl
  | dspStep => exact dspStep_ignoresEvents params
  | irqTick => exact fun _ _ => rfl
  | irqOvf =>
    intro s es
    cases h : s.hal.ovfIrqEn <;> simp only [exec, execIrqOvf, State.setEvents_hal, h] <;> rfl
  | irqHalt =>
    exact genStopFast_ignoresEvents.andThen
      (ignoresEvents_next (f := (·.setStopGenerator true)) fun _ _ => rfl)
  | pinSet pins => exact fun _ _ => rfl

end Sys2Proof.Machine
end

