-- ==== Sys2Proof/Laws/PerInstr.lean ====
section
/-! SUPPORT. Statements about every instruction as syntax, one lemma per constructor. -/

namespace Sys2Proof.Laws.Encoding

/-- An instruction's word is not one of the reserved words of 30_encoding.md R84, and the row of the
opcode map it selects is the one of its mnemonic. -/
def Statement (i : Instr) : Prop :=
  wordWellFormed (encode i) = true ∧
    (opRows.find? fun r => rowSelects r (encode i)).map OpRow.mnemonic = some (mnemonicOf i)

theorem btnUpdate (id : ButtonId) (smp : Sample) : Statement (.btnUpdate id smp) := by
  cases id <;> cases smp <;> exact ⟨by decide, by decide⟩

theorem btnClrP (id : ButtonId) : Statement (.btnClrP id) := by
  cases id <;> exact ⟨by decide, by decide⟩

theorem btnClrC (id : ButtonId) : Statement (.btnClrC id) := by
  cases id <;> exact ⟨by decide, by decide⟩

theorem btnClrL (id : ButtonId) : Statement (.btnClrL id) := by
  cases id <;> exact ⟨by decide, by decide⟩

theorem genInit : Statement .genInit := ⟨by decide, by decide⟩

theorem genToggleMode : Statement .genToggleMode := ⟨by decide, by decide⟩

theorem genSetAuto : Statement .genSetAuto := ⟨by decide, by decide⟩

theorem genFreqUp : Statement .genFreqUp := ⟨by decide, by decide⟩

theorem genFreqDown : Statement .genFreqDown := ⟨by decide, by decide⟩

theorem genOvf : Statement .genOvf := ⟨by decide, by decide⟩

theorem genStop : Statement .genStop := ⟨by decide, by decide⟩

theorem genStopFast : Statement .genStopFast := ⟨by decide, by decide⟩

theorem genSetManual (lvl : Level) : Statement (.genSetManual lvl) := by
  cases lvl <;> exact ⟨by decide, by decide⟩

theorem dspStep : Statement .dspStep := ⟨by decide, by decide⟩

theorem irqTick : Statement .irqTick := ⟨by decide, by decide⟩

theorem irqOvf : Statement .irqOvf := ⟨by decide, by decide⟩

theorem irqHalt : Statement .irqHalt := ⟨by decide, by decide⟩

theorem pinSet (pins : BitVec 3) : Statement (.pinSet pins) := by
  unfold Statement; revert pins; decide

end Sys2Proof.Laws.Encoding
end

