-- ==== Sys2Proof/Tests/Slice0.lean ====
section
/-! SUPPORT. Tests: what is ill formed is refused, words written out from the spec's formats, single
steps whose results are the spec's worked examples and vectors (95_test_vectors.md), and for every
obligation with hypotheses a witness that meets them. -/

namespace Sys2Proof.Tests

open Sys2Proof.Machine Sys2Proof.Expected

/-! ## Well-formedness -/

theorem test_reserved_words_refused :
    [0x08#8, 0x0F#8, 0x14#8, 0x1F#8, 0x24#8, 0x2F#8, 0x34#8, 0x3F#8, 0x4A#8, 0x4F#8, 0x51#8, 0x5F#8,
      0x63#8, 0x6F#8, 0x78#8, 0x7F#8, 0x80#8, 0xFF#8].all (fun w => !wordWellFormed w) = true := by
  decide

theorem test_defined_words_accepted :
    [0x00#8, 0x07#8, 0x10#8, 0x13#8, 0x20#8, 0x23#8, 0x30#8, 0x33#8, 0x40#8, 0x49#8, 0x50#8, 0x60#8,
      0x62#8, 0x70#8, 0x77#8].all wordWellFormed = true := by
  decide

theorem test_press_threshold_zero_refused :
    paramsWellFormed { params with pressThreshold := 0 } = false := by decide

theorem test_press_above_longpress_refused :
    paramsWellFormed { params with pressThreshold := 11 } = false := by decide

theorem test_div_count_zero_refused :
    paramsWellFormed { params with divCount := 0 } = false := by decide

theorem test_default_params_accepted : paramsWellFormed params = true := by decide

theorem test_unrecognised_button_is_well_formed :
    instrWellFormed (.btnClrP .unrecognised) = true := by decide

/-! ## Words, from the formats of 30_encoding.md R81 and the opcode map R83 -/

/-- Format B: major 0, bit 3 zero, `id` in bits 2..1, `s` in bit 0. -/
theorem test_decode_btnUpdate :
    decodeWord 0b00000000#8 = .ok (.btnUpdate .up .released) ∧
    decodeWord 0b00000101#8 = .ok (.btnUpdate .mode .pressed) ∧
    decodeWord 0b00000110#8 = .ok (.btnUpdate .unrecognised .released) := ⟨rfl, rfl, rfl⟩

/-- Format C: `id` in bits 1..0. -/
theorem test_decode_btnClr :
    decodeWord 0b00010011#8 = .ok (.btnClrP .unrecognised) ∧
    decodeWord 0b00100010#8 = .ok (.btnClrC .mode) ∧
    decodeWord 0b00110001#8 = .ok (.btnClrL .down) := ⟨rfl, rfl, rfl⟩

/-- Format G of major opcode 4. -/
theorem test_decode_gen :
    decodeWord 0b01000000#8 = .ok .genInit ∧ decodeWord 0b01000001#8 = .ok .genToggleMode ∧
    decodeWord 0b01000010#8 = .ok .genSetAuto ∧ decodeWord 0b01000011#8 = .ok .genFreqUp ∧
    decodeWord 0b01000100#8 = .ok .genFreqDown ∧ decodeWord 0b01000101#8 = .ok .genOvf ∧
    decodeWord 0b01000110#8 = .ok .genStop ∧ decodeWord 0b01000111#8 = .ok .genStopFast :=
  ⟨rfl, rfl, rfl, rfl, rfl, rfl, rfl, rfl⟩

/-- Format L: `lvl` in bit 0. -/
theorem test_decode_genSetManual :
    decodeWord 0b01001000#8 = .ok (.genSetManual .low) ∧
    decodeWord 0b01001001#8 = .ok (.genSetManual .high) := ⟨rfl, rfl⟩

theorem test_decode_dsp_irq :
    decodeWord 0b01010000#8 = .ok .dspStep ∧ decodeWord 0b01100000#8 = .ok .irqTick ∧
    decodeWord 0b01100001#8 = .ok .irqOvf ∧ decodeWord 0b01100010#8 = .ok .irqHalt :=
  ⟨rfl, rfl, rfl, rfl⟩

/-- Format P: `pins` in bits 2..0. -/
theorem test_decode_pinSet :
    decodeWord 0b01110001#8 = .ok (.pinSet 0b001#3) ∧
    decodeWord 0b01110110#8 = .ok (.pinSet 0b110#3) := ⟨rfl, rfl⟩

theorem test_decode_reserved : decodeWord 0b01001010#8 = .error (.reserved 0x4A) := rfl

theorem test_decode_no_word : decode [] = .error .noWord := rfl

theorem test_encode_operands :
    encode (.btnUpdate .down .pressed) = 0x03#8 ∧ encode (.genSetManual .high) = 0x49#8 ∧
    encode (.pinSet 0b101#3) = 0x75#8 := by decide

theorem test_decodeTableWord :
    decodeTableWord 8 0x62 = some .irqHalt ∧ decodeTableWord 8 0x51 = none ∧
    decodeTableWord 16 0x0062 = none := ⟨rfl, rfl, rfl⟩

/-! ## Start states -/

/-- A button record, in the field order of 10_state.md R21. -/
def btn (counter : BitVec 8) (pressed longPressed clicked : Bool) (last : Sample) : ButtonState :=
  ⟨counter, pressed, longPressed, clicked, last⟩

/-- Booted, in Auto mode entered at index `i` (R222 for `i = 1`). -/
def autoAt (i : FreqIndex) : State := { autoEntered State.reset i with booted := true }

/-- Booted, in Auto mode at index 0, with sub-count `c` (R28). -/
def lowestAt (c : BitVec 8) : State :=
  { autoAt 0 with g := { (autoAt 0).g with ovfCount := c } }

/-- Manual mode and ManualLow, out of Auto mode at index `i` (R147). -/
def manualLow (i : FreqIndex) : State := stopped (autoAt i)

/-- Manual mode and ManualHigh (R143). -/
def manualHigh (i : FreqIndex) : State :=
  manualAt (manualLow i) .high (manualLow i).hal (manualEvents .high)

/-- A state with button Up's record set. -/
def withUp (r : ButtonState) (s : State) : State := s.setButton .up r

/-- A state with the flags `t`, `h`, `b` and a phase (95_test_vectors.md, conventions). -/
def withFlags (t h b : Bool) (p : Phase) (s : State) : State :=
  { s with f := { readButtons := b, stopGenerator := h, timer1Overflow := t }, phase := p }

/-- A state in which these words are presented next. -/
def presenting (ws : List Byte) (s : State) : State := { s with events := ws.map .word }

/-- The state after an instruction, if it answers one. -/
def after (i : Instr) (s : State) : Option State :=
  match exec i s with
  | .next t => some t
  | .fault _ | .refused _ => none

/-- The events an instruction appends, if it answers a state. -/
def emits (i : Instr) (s : State) : Option (List HalEvent) :=
  (after i s).map (emittedBetween s)

/-! ## Button debouncer (95_test_vectors.md 2.1) -/

/-- Vector H, `n = 10`: the tenth sample latches `longPressed`. -/
theorem test_btnUpdate_tenth :
    (after (.btnUpdate .up .pressed)
      (withUp (btn 9 true false false .pressed) State.reset)).map (·.bs.up) =
      some (btn 10 true true false .pressed) := by decide

/-- DB2: the release after nine samples is a click. -/
theorem test_btnUpdate_release :
    (after (.btnUpdate .up .released)
      (withUp (btn 9 true false false .pressed) State.reset)).map (·.bs.up) =
      some (btn 0 true false true .released) := by decide

/-- DB6: `CLRP` inside a hold keeps the counter. -/
theorem test_btnClrP :
    (after (.btnClrP .up) (withUp (btn 3 true false false .pressed) State.reset)).map (·.bs.up) =
      some (btn 3 false false false .pressed) := by decide

/-- DB11. -/
theorem test_btnClrC :
    (after (.btnClrC .up) (withUp (btn 0 true false true .released) State.reset)).map (·.bs.up) =
      some (btn 0 true false false .released) := by decide

/-- DB7. -/
theorem test_btnClrL :
    (after (.btnClrL .up) (withUp (btn 10 true true false .pressed) State.reset)).map (·.bs.up) =
      some (btn 10 true false false .pressed) := by decide

/-- DB8. -/
theorem test_unrecognised_button :
    after (.btnUpdate .unrecognised .pressed) State.reset = some State.reset := by decide

/-! ## Generator (95_test_vectors.md 2.2) -/

/-- G1: from reset to the state of 70_reset_and_hazards.md R222. -/
theorem test_genInit :
    (after .genInit State.reset).map (fun t => (t.g.mode, t.g.state, t.g.freqIndex, t.out, t.ind)) =
      some (.auto, .slowAutoHigh, 1, .high, .autoGreen) := by decide

theorem test_genInit_trace :
    emits .genInit State.reset =
      some [.configureSlowTimer (Config.ftPrescale 1) (Config.ftReload 1), .writePin .high,
        .setIndicator .autoGreen] := rfl

/-- G3 (source scenario S5): from FastAuto to ManualLow, never ManualHigh. -/
theorem test_genToggleMode :
    emits .genToggleMode (autoAt 6) =
      some [.stopAllGeneration, .writePin .low, .setIndicator .manualRed] ∧
    (after .genToggleMode (autoAt 6)).map (fun t => (t.g.mode, t.g.state, t.out)) =
      some (.manual, .manualLow, .low) := by decide

/-- R142 from Manual mode at a fast index. -/
theorem test_genSetAuto :
    (after .genSetAuto (manualHigh 8)).map (fun t => (t.g.state, t.out, t.hal.gen, t.ind)) =
      some (.fastAuto, .wave, .fast, .autoYellow) := by decide

/-- G9 (source scenario S9): the pulse. -/
theorem test_genSetManual_pulse :
    emits (.genSetManual .low) (manualLow 1) =
      some [.writePin .high, .setIndicator .manualGreen, .delay Config.pulseDelay, .writePin .low,
        .setIndicator .manualRed] := rfl

/-- R143 with the other level: no pulse. -/
theorem test_genSetManual_change :
    emits (.genSetManual .high) (manualLow 1) =
      some [.writePin .high, .setIndicator .manualGreen] := by decide

/-- G16: across the regime boundary. -/
theorem test_genFreqUp_boundary :
    (after .genFreqUp (autoAt 4)).map (fun t => (t.g.state, t.g.freqIndex, t.out, t.hal.ovfIrqEn)) =
      some (.fastAuto, 5, .wave, false) := by decide

/-- G19 (source scenario S4): the last index is kept. -/
theorem test_genFreqUp_bound : after .genFreqUp (autoAt 11) = some (autoAt 11) := rfl

/-- G21: back across the boundary, going high. -/
theorem test_genFreqDown_boundary :
    (after .genFreqDown (autoAt 5)).map (fun t => (t.g.state, t.g.freqIndex, t.out, t.ind)) =
      some (.slowAutoHigh, 4, .high, .autoYellow) := by decide

/-- G25: no effect in Manual mode. -/
theorem test_genFreqDown_manual : after .genFreqDown (manualHigh 6) = some (manualHigh 6) := rfl

/-- G30: the first of four overflows at index 0 only counts. -/
theorem test_genOvf_counts :
    emits .genOvf (lowestAt 0) = some [] ∧
    (after .genOvf (lowestAt 0)).map (·.g.ovfCount) = some 1 := by decide

/-- G31: the fourth toggles. -/
theorem test_genOvf_toggles :
    emits .genOvf (lowestAt 3) = some [.writePin .low, .setIndicator .autoRed] ∧
    (after .genOvf (lowestAt 3)).map (·.g.ovfCount) = some 0 := by decide

/-- G37. -/
theorem test_genStop :
    emits .genStop (autoAt 2) =
      some [.stopAllGeneration, .writePin .low, .setIndicator .manualRed] := by decide

/-- G34: registers and indicator stay. -/
theorem test_genStopFast :
    (after .genStopFast (autoAt 10)).map (fun t => (t.g.state, t.ind, t.out, t.hal.gen)) =
      some (.fastAuto, .autoYellow, .low, .stopped) := by decide

/-! ## Dispatcher and interrupts (95_test_vectors.md 2.3) -/

/-- Source scenario S10: a pending halt suppresses the overflow callback. -/
theorem test_dspStep_halt_suppresses :
    (after .dspStep (withFlags true true false .one (autoAt 1))).map
      (fun t => (t.f, t.phase, t.g.state)) =
      some (⟨false, true, false⟩, .two, .slowAutoHigh) := by decide

/-- R173, R174: a press of Up in Auto mode raises the index; `pressed` alone is cleared. -/
theorem test_dspStep_button :
    (after .dspStep { withFlags false false true .three (autoAt 1) with pins := 1 }).map
      (fun t => (t.g.freqIndex, t.bs.up, t.phase)) =
      some (2, btn 1 false false false .pressed, .one) := by decide

/-- The example of 60_exceptions.md R193. -/
theorem test_irqTick :
    (after .irqTick (autoAt 1)).map (·.f) = some ⟨true, false, false⟩ := by decide

theorem test_irqOvf :
    (after .irqOvf (autoAt 1)).map (·.f) = some ⟨false, false, true⟩ ∧
    after .irqOvf (autoAt 6) = none := ⟨by decide, rfl⟩

/-- Source scenario S8, the interrupt's half. -/
theorem test_irqHalt :
    emits .irqHalt (autoAt 10) = some [.stopAllGeneration, .writePin .low] ∧
    (after .irqHalt (autoAt 10)).map (fun t => (t.f.stopGenerator, t.out, t.g.state)) =
      some (true, .low, .fastAuto) := by decide

theorem test_pinSet : (after (.pinSet 0b101) State.reset).map (·.pins) = some 0b101 := by decide

/-! ## Steps, ports and text -/

theorem test_withFetchWord :
    step (State.reset.withFetchWord 8 0x60) =
      .next { State.reset with
        booted := true, f := { readButtons := true, stopGenerator := false, timer1Overflow := false } } ∧
    step (State.reset.withFetchWord 8 0x51) = .refused (.reservedWord 0x51) := ⟨rfl, rfl⟩

/-- 70_reset_and_hazards.md R221 with 93_implementation_defined.md section 2. -/
theorem test_events_before_boot :
    step (presenting [0x71] State.reset) = .refused (.beforeBoot 0x71) ∧
    step (presenting [0x60] State.reset) = .refused (.beforeBoot 0x60) := ⟨rfl, rfl⟩

/-- 60_exceptions.md R195: two asserting edges, however long the line stays low. -/
theorem test_haltEvents :
    haltEvents true [true, false, false, true, false] = [haltEvent, haltEvent] := by decide

theorem test_ports :
    outPort (autoAt 6) = 2#2 ∧ indicatorPort (manualLow 1) = 1#3 ∧
    indicatorStrobes State.reset (autoAt 1) = 1 := by decide

/-- The example lines of 30_encoding.md R87. -/
theorem test_assembler :
    assembleLine "BTN.UPDATE Up, Pressed" = some [.word 0x01] ∧
    assembleLine "GEN.SETMANUAL 1 ; comment" = some [.word 0x49] ∧
    assembleLine "PIN.SET 0b101" = some [.word 0x75] ∧
    assembleLine "BOOT" = some [.reset, .word 0x40] := by decide

/-! ## Witnesses

One per obligation with hypotheses: concrete states and operands that meet all of them together. -/

theorem autoAt_halInv (i : FreqIndex) : HalInv (autoAt i) := by
  by_cases h : i ≤ 4
  · simp [HalInv, autoAt, autoEntered, h]
  · have h5 : 5 ≤ i := Nat.succ_le_of_lt (Nat.lt_of_not_le h)
    simp [HalInv, autoAt, autoEntered, h, h5]

theorem autoAt_traceInv (i : FreqIndex) : TraceInv (autoAt i) := by
  by_cases h : i ≤ 4
  · by_cases h2 : 2 < i <;>
      simp [TraceInv, autoAt, autoEntered, h, h2, State.reset, Hal.reset, eventHal, eventOut,
        eventInd, outOfLevel, releaseWave]
  · simp [TraceInv, autoAt, autoEntered, h, State.reset, Hal.reset, eventHal, eventOut, eventInd]

/-- In Auto mode at index `i`, whatever the flags, phase, pins and events, the invariant holds. -/
theorem autoAt_inv (i : FreqIndex) (f : Flags) (p : Phase) (pins : BitVec 3) (es : List Event) :
    BlockInv params { autoAt i with f := f, phase := p, pins := pins, events := es } where
  buttons := (by decide : ∀ i, ButtonsInv params (autoAt i)) i
  mode := (by decide : ∀ i, ModeInv (autoAt i)) i
  count := (by decide : ∀ i, CountInv params (autoAt i)) i
  hal := autoAt_halInv i
  out := (by decide : ∀ i, OutInv (autoAt i)) i
  ind := (by decide : ∀ i, IndInv (autoAt i)) i
  trace := autoAt_traceInv i

theorem manualLow_inv : BlockInv params (manualLow 6) := by
  refine ⟨by decide, by decide, by decide, by decide, by decide, by decide, rfl, rfl, rfl, ?_⟩
  decide

theorem witness_EncodeOfDecode : decodeWord 0x77 = .ok (.pinSet 7) := rfl

theorem witness_BtnUpdateResult :
    buttonOf .mode = some .mode ∧
    ((withUp (btn 9 true false false .pressed) State.reset).bs.get .up).pressedCounter.toNat < 10 ∧
    10 ≤ ((withUp (btn 10 true true false .pressed) State.reset).bs.get .up).pressedCounter.toNat ∧
    10 ≤ ((withUp (btn 255 true true false .pressed) State.reset).bs.get .up).pressedCounter.toNat :=
  by decide

theorem witness_LatchClearResults :
    buttonOf .up = some .up ∧ buttonOf .down = some .down ∧ buttonOf .mode = some .mode := by decide

theorem witness_UpdateNeverClearsLatch :
    let r := (withUp (btn 10 true true true .pressed) State.reset).bs.get .up
    r.pressed = true ∧ r.longPressed = true ∧ r.clicked = true := by decide

theorem witness_HoldThenRelease :
    let r := State.reset.bs.get .down
    buttonOf .down = some .down ∧ r.pressedCounter = 0 ∧ r.pressed = false ∧
      r.longPressed = false ∧ r.clicked = false := by decide

theorem witness_NoRelatchInsideHold :
    buttonOf .up = some .up ∧
    (let r := (withUp (btn 1 false false false .pressed) State.reset).bs.get .up;
      1 ≤ r.pressedCounter.toNat ∧ r.pressedCounter.toNat ≤ 10 ∧ r.pressed = false) ∧
    (let r := (withUp (btn 10 false false false .pressed) State.reset).bs.get .up;
      r.pressedCounter.toNat ≤ 10 ∧ r.pressed = false ∧
      10 = r.pressedCounter.toNat ∧ r.longPressed = false) := by decide

/-- For `ReleaseOnTransitionOnly` and `UpdateKeepsRecordInv`. -/
theorem witness_RecordInv :
    paramsWellFormed params = true ∧ RecordInv params (btn 10 true true false .pressed) ∧
    RecordInv params (btn 0 true false true .released) ∧
    paramsWellFormed { params with pressThreshold := 255, longPressThreshold := 255 } = true := by
  decide

theorem witness_GenSetAutoResult :
    (autoAt 5).g.mode = .auto ∧ (manualLow 0).g.mode = .manual := by decide

theorem witness_GenToggleModeResult :
    (ModeInv (autoAt 11) ∧ (autoAt 11).g.mode = .auto) ∧
    (ModeInv (manualHigh 4) ∧ (manualHigh 4).g.mode = .manual) := by decide

theorem witness_GenSetManualFromAuto :
    (ModeInv (autoAt 4) ∧ (autoAt 4).g.mode = .auto) ∧
    (ModeInv (autoAt 5) ∧ (autoAt 5).g.mode = .auto) := by decide

theorem witness_GenSetManualInManual :
    (manualLow 6).g.mode = .manual ∧ (manualLow 6).hal.gen ≠ .fast ∧
    (manualLow 6).g.state = .manualLow ∧ (manualLow 6).g.state ≠ .manualHigh := by decide

theorem witness_FrequencyNoEffect :
    (manualLow 3).g.mode = .manual ∧ (autoAt 11).g.freqIndex = 11 ∧
    (autoAt 0).g.freqIndex = 0 := by decide

theorem witness_GenFreqUpResult :
    (ModeInv (autoAt 3) ∧ (autoAt 3).g.mode = .auto ∧
      (4 : FreqIndex).val = (autoAt 3).g.freqIndex.val + 1) ∧
    (ModeInv (autoAt 4) ∧ (autoAt 4).g.mode = .auto ∧
      (5 : FreqIndex).val = (autoAt 4).g.freqIndex.val + 1) ∧
    (ModeInv (autoAt 10) ∧ (autoAt 10).g.mode = .auto ∧
      (11 : FreqIndex).val = (autoAt 10).g.freqIndex.val + 1) := by decide

theorem witness_GenFreqDownResult :
    (ModeInv (autoAt 1) ∧ (autoAt 1).g.mode = .auto ∧
      (0 : FreqIndex).val + 1 = (autoAt 1).g.freqIndex.val) ∧
    (ModeInv (autoAt 5) ∧ (autoAt 5).g.mode = .auto ∧
      (4 : FreqIndex).val + 1 = (autoAt 5).g.freqIndex.val) ∧
    (ModeInv (autoAt 6) ∧ (autoAt 6).g.mode = .auto ∧
      (5 : FreqIndex).val + 1 = (autoAt 6).g.freqIndex.val) := by decide

theorem witness_OvfOutsideSlowRegime :
    (manualLow 0).g.mode = .manual ∧ 5 ≤ (autoAt 5).g.freqIndex := by decide

theorem witness_OvfTogglesEveryTime :
    ((autoAt 1).g.mode = .auto ∧ 1 ≤ (autoAt 1).g.freqIndex ∧ (autoAt 1).g.freqIndex ≤ 4 ∧
      (autoAt 1).hal.gen ≠ .fast) ∧
    ((autoAt 4).g.mode = .auto ∧ 1 ≤ (autoAt 4).g.freqIndex ∧ (autoAt 4).g.freqIndex ≤ 4 ∧
      (autoAt 4).hal.gen ≠ .fast) := by decide

/-- For `OvfCountsAtLowest` (sub-counts 2 and 3) and `FourOverflowsOneToggle`. -/
theorem witness_OvfAtLowest :
    ((lowestAt 2).g.mode = .auto ∧ (lowestAt 2).g.freqIndex = 0 ∧ (lowestAt 2).hal.gen ≠ .fast ∧
      (lowestAt 2).g.ovfCount.toNat < 3) ∧
    ((lowestAt 3).g.mode = .auto ∧ (lowestAt 3).g.freqIndex = 0 ∧ (lowestAt 3).hal.gen ≠ .fast ∧
      (lowestAt 3).g.ovfCount.toNat = 3 ∧ (lowestAt 3).g.ovfCount < 4) := by decide

/-- No run reaches such a state: 42_generator.md R134. -/
theorem witness_PinWriteWhileFastRefused :
    (let s := { manualLow 1 with hal := (autoAt 6).hal };
      s.hal.gen = .fast ∧ s.g.mode = .manual) ∧
    (let s := { autoAt 4 with hal := (autoAt 6).hal };
      s.hal.gen = .fast ∧ s.g.mode = .auto ∧ 1 ≤ s.g.freqIndex ∧ s.g.freqIndex ≤ 4) := by decide

/-- Index 4 meets the first condition of the frequency clause, index 5 of the other. -/
theorem witness_TransitionTable_auto :
    (ModeInv (autoAt 4) ∧ (autoAt 4).g.ovfCount < 4 ∧ (after .genFreqUp (autoAt 4)).isSome) ∧
    (ModeInv (autoAt 5) ∧ (autoAt 5).g.ovfCount < 4 ∧ (after .genFreqDown (autoAt 5)).isSome) ∧
    (ModeInv (lowestAt 3) ∧ (lowestAt 3).g.ovfCount < 4 ∧ (after .genOvf (lowestAt 3)).isSome) := by
  refine ⟨?_, ?_, ?_⟩ <;> decide

theorem witness_TransitionTable_manual :
    ModeInv (manualHigh 4) ∧ (manualHigh 4).g.ovfCount < 4 ∧
    [.genToggleMode, .genSetAuto, .genSetManual .low, .genSetManual .high, .genInit, .genStop,
      .genStopFast].all (fun i => (after i (manualHigh 4)).isSome) = true := by
  refine ⟨?_, ?_, ?_⟩ <;> decide

theorem witness_GeneratorStaysSettled :
    isSettling .genInit = true ∧ ModeInv (manualLow 6) ∧ CountInv params (manualLow 6) ∧
    Settled (manualLow 6) := by
  refine ⟨?_, ?_, ?_, ?_, ?_⟩ <;> first | decide | exact ⟨by decide, by decide⟩

theorem witness_GeneratorStaysSettled_auto :
    isSettling .genOvf = true ∧ ModeInv (autoAt 4) ∧ CountInv params (autoAt 4) ∧
    Settled (autoAt 4) := by
  refine ⟨by decide, by decide, by decide, by decide, fun _ _ => ⟨rfl, rfl, rfl, rfl, ?_⟩, ?_⟩ <;>
    decide

theorem witness_DspStepOne :
    (autoAt 1).phase = .one ∧ (autoAt 1).f.timer1Overflow = false ∧
    (withFlags true true false .one (autoAt 1)).f.stopGenerator = true ∧
    (withFlags true false false .one (autoAt 1)).f.stopGenerator = false := by decide

theorem witness_DspStepTwo :
    let s := withFlags false true false .two (autoAt 1)
    let u := withFlags false false false .two (autoAt 1)
    s.phase = .two ∧ s.f.stopGenerator = true ∧ u.phase = .two ∧ u.f.stopGenerator = false := by
  decide

theorem witness_DspStepThree :
    let s := withFlags false false true .three (autoAt 1)
    let u := withFlags false false false .three (autoAt 1)
    s.phase = .three ∧ s.f.readButtons = true ∧ u.phase = .three ∧ u.f.readButtons = false := by
  decide

theorem witness_DspStepCompletes (p : Phase) :
    BlockInv params (withFlags true false true p (autoAt 1)) := autoAt_inv 1 _ _ _ []

theorem witness_IterationTable (t h b : Bool) :
    let s := withFlags t h b .one (autoAt 1)
    s.phase = .one ∧ s.f = ⟨b, h, t⟩ ∧ (after .genOvf s).isSome := by
  revert t h b; decide

theorem witness_IrqOvfResult :
    (autoAt 4).hal.ovfIrqEn = true ∧ (autoAt 5).hal.ovfIrqEn = false := by decide

theorem witness_IrqTickResult :
    (withFlags false false true .one (autoAt 1)).f.readButtons = true := by decide

theorem witness_HaltThenStepTwo : (withFlags false false false .two (autoAt 6)).phase = .two := by
  decide

theorem witness_InterruptsOwnFlagsOnly :
    (agentOf .irqHalt ≠ .loop ∧ (after .irqHalt (autoAt 6)).isSome) ∧
    (agentOf .irqOvf ≠ .loop ∧ (after .irqOvf (autoAt 1)).isSome) ∧
    (agentOf .irqTick = .int ∧ Instr.irqTick ≠ .irqHalt ∧ (after .irqTick (autoAt 1)).isSome) ∧
    (agentOf (.pinSet 7) = .env ∧ (after (.pinSet 7) (autoAt 1)).isSome) := by decide

theorem witness_LoopNeverSetsFlags :
    (agentOf .dspStep = .loop ∧
      (after .dspStep (withFlags true true true .three (autoAt 1))).isSome) ∧
    (isButtonWord (.btnClrP .up) = true ∧ (after (.btnClrP .up) (autoAt 1)).isSome) ∧
    (isGenWord .genStopFast = true ∧ (after .genStopFast (autoAt 6)).isSome) := by decide

theorem witness_FreqIndexWriters :
    (after .genFreqUp (autoAt 10)).map (·.g.freqIndex) = some 11 ∧
    (after .genFreqDown (autoAt 1)).map (·.g.freqIndex) = some 0 ∧
    (after .genStop (autoAt 6)).map (·.g.freqIndex) = some 6 := by decide

theorem witness_LatchesPersist :
    let s := withUp (btn 10 true true true .pressed) (autoAt 1)
    (s.bs.get .up).clicked = true ∧ (s.bs.get .up).longPressed = true ∧
    (after (.btnUpdate .up .released) s).isSome ∧ (after (.btnClrP .up) s).isSome := by decide

theorem witness_TraceExplainsHardware : (after .genFreqUp (autoAt 4)).isSome := by decide

theorem witness_StepKeepsInvariant :
    BlockInv params (autoAt 4) ∧ (∃ t, step (autoAt 4) = .next t) ∧
    BlockInv params (manualLow 6) :=
  ⟨autoAt_inv 4 _ _ _ [], ⟨_, rfl⟩, manualLow_inv⟩

/-- Both sides of `StepSafeIffEnabled` occur: an overflow interrupt in the slow and in the fast
regime. -/
theorem witness_StepSafeIffEnabled :
    (BlockInv params (presenting [0x61] (autoAt 4)) ∧
      nextEnabled (presenting [0x61] (autoAt 4)) = true) ∧
    (BlockInv params (presenting [0x61] (autoAt 5)) ∧
      nextEnabled (presenting [0x61] (autoAt 5)) = false) :=
  ⟨⟨autoAt_inv 4 _ _ _ _, rfl⟩, ⟨autoAt_inv 5 _ _ _ _, rfl⟩⟩

theorem witness_AnyParametersKeepInvariant :
    paramsWellFormed params = true ∧ BlockInv params (autoAt 11) :=
  ⟨rfl, autoAt_inv 11 _ _ _ []⟩

theorem witness_StepRunsDecodedWord :
    (presenting [0x62, 0x50] (autoAt 6)).events = .word 0x62 :: [.word 0x50] ∧
    decodeWord 0x62 = .ok .irqHalt ∧ agentOf .irqHalt ≠ .loop ∧
    (presenting [0x62, 0x50] (autoAt 6)).booted = true ∧
    (presenting [0x46] State.reset).events = .word 0x46 :: [] ∧
    decodeWord 0x46 = .ok .genStop ∧ agentOf .genStop = .loop := by
  exact ⟨rfl, rfl, by decide, rfl, rfl, rfl, rfl⟩

theorem witness_LoopRunsFree :
    State.reset.events = [] ∧ State.reset.booted = false ∧ (autoAt 1).events = [] ∧
    (autoAt 1).booted = true := by decide

theorem witness_StepRefusals :
    (presenting [0x51] State.reset).events = .word 0x51 :: [] ∧ reservedWord 0x51 = true ∧
    (presenting [0x60] State.reset).events = .word 0x60 :: [] ∧
    decodeWord 0x60 = .ok .irqTick ∧ agentOf .irqTick ≠ .loop ∧
    decodeWord 0x77 = .ok (.pinSet 7) ∧ agentOf (.pinSet 7) ≠ .loop ∧
    (presenting [0x77] State.reset).booted = false :=
  ⟨rfl, rfl, rfl, rfl, by decide, rfl, by decide, rfl⟩

theorem witness_ResetEventResult :
    ({ autoAt 6 with events := [.reset] } : State).events = .reset :: [] := rfl

theorem witness_BootState :
    ({ autoAt 6 with events := boot ++ [.word 0x50] } : State).events = boot ++ [.word 0x50] := rfl

/-- A tick has come in the start state of a deployed run. -/
def ticked : State := withFlags false false true .one (autoAt 1)

/-- Reset, `GEN.INIT`, `IRQ.TICK`, and so on without end. -/
def endless : EventSequence :=
  .infinite fun n => if n % 3 = 0 then .reset else if n % 3 = 1 then .word 0x40 else .word 0x60

theorem endless_states (n : Nat) : afterEvents endless n ticked =
    .next (if n % 3 = 0 then ticked else if n % 3 = 1 then State.reset else autoAt 1) := by
  induction n with
  | zero => rfl
  | succ n ih =>
    rw [afterEvents_succ, ih]
    have h : n % 3 = 0 ∨ n % 3 = 1 ∨ n % 3 = 2 := by omega
    rcases h with h | h | h <;>
      simp only [endless, EventSequence.at?, h, Nat.add_mod n 1 3] <;> rfl

/-- A run without end in which reset and interrupts come for ever (00_scope.md R11). -/
theorem test_endless_run : IsRun endless ticked := fun n => ⟨_, endless_states n⟩

theorem test_refused_sequence_is_no_run : ¬ IsRun (.finite [.word 0x51]) (autoAt 1) := fun h => by
  obtain ⟨_, h1⟩ := h 1
  cases h1

theorem witness_RunKeepsInvariant :
    BlockInv params ticked ∧ ∃ t, afterEvents endless 5 ticked = .next t :=
  ⟨autoAt_inv 1 _ _ _ [], _, endless_states 5⟩

theorem witness_RunIffEnabled :
    BlockInv params ticked ∧ endless.at? 2 = some (.word 0x60) ∧
    afterEvents endless 2 ticked = .next (autoAt 1) :=
  ⟨autoAt_inv 1 _ _ _ [], rfl, endless_states 2⟩

theorem witness_StepsTakePresentedEvents :
    (presenting [0x60, 0x62, 0x50] (autoAt 6)).events = [.word 0x60, .word 0x62] ++ [.word 0x50] :=
  rfl

end Sys2Proof.Tests
end

section
/-! PROOFS of the frames of 10_state.md R36: what the interrupt and environment events leave alone
(O44), and what the loop leaves alone (O45). -/

namespace Sys2Proof.Machine

open Sys2Proof.Expected

/-! ## Interrupt and environment words -/

/-- A fast stop completes from every state: once the generation hardware is stopped, the pin write
cannot clash (R131, R134, R148). -/
theorem genStopFast_eq (s : State) :
    genStopFast s = .next ((s.emitted .stopAllGeneration).emitted (.writePin .low)) := by
  rw [genStopFast, emitAll_cons, emit_next (pinClash_stop _), andThen_next, emitAll_cons,
    emit_next (pinClash_writePin_stopped _), andThen_next, emitAll_nil]

theorem exec_irqOvf_inv {s t : State} (h : exec .irqOvf s = .next t) :
    t = s.setTimer1Overflow true := by
  simp only [exec, execIrqOvf] at h
  split at h <;> cases h
  rfl

theorem exec_irqHalt_eq (s : State) :
    exec .irqHalt s = .next
      (((s.emitted .stopAllGeneration).emitted (.writePin .low)).setStopGenerator true) := by
  simp only [exec, execIrqHalt, genStopFast_eq, andThen_next]

/-- All that an INT or ENV word can do (R193 to R196). -/
theorem exec_outside_loop_cases {i : Instr} {s t : State} (hi : agentOf i ≠ .loop)
    (h : exec i s = .next t) :
    (i = .irqTick ∧ t = s.setReadButtons true) ∨
    (i = .irqOvf ∧ t = s.setTimer1Overflow true) ∨
    (i = .irqHalt ∧
      t = ((s.emitted .stopAllGeneration).emitted (.writePin .low)).setStopGenerator true) ∨
    ∃ pins, i = .pinSet pins ∧ t = s.setPins pins := by
  cases i with
  | irqTick => cases h; exact .inl ⟨rfl, rfl⟩
  | irqOvf => exact .inr (.inl ⟨rfl, exec_irqOvf_inv h⟩)
  | irqHalt =>
    rw [exec_irqHalt_eq] at h
    cases h
    exact .inr (.inr (.inl ⟨rfl, rfl⟩))
  | pinSet pins => cases h; exact .inr (.inr (.inr ⟨pins, rfl, rfl⟩))
  | _ => exact absurd rfl hi

/-- Settles O44: each of the four words is a write of one flag or of the pins, and a halt's fast
stop before its flag is a pair of events that touch neither registers nor indicator. -/
theorem interruptsOwnFlagsOnly : Obligations.InterruptsOwnFlagsOnly := by
  intro i s t hi h
  obtain ⟨rfl, rfl⟩ | ⟨rfl, rfl⟩ | ⟨rfl, rfl⟩ | ⟨pins, rfl, rfl⟩ := exec_outside_loop_cases hi h
  · simp [agentOf]
  · simp [agentOf]
  · simp [agentOf, eventInd]
  · simp [agentOf]

/-! ## The frame of the loop -/

/-- What every LOOP word keeps: the pins, the model's own fields, and an event flag that is clear
stays clear. -/
structure LoopFrame (s t : State) : Prop where
  pins : t.pins = s.pins
  events : t.events = s.events
  booted : t.booted = s.booted
  readButtons : t.f.readButtons = true → s.f.readButtons = true
  stopGenerator : t.f.stopGenerator = true → s.f.stopGenerator = true
  timer1Overflow : t.f.timer1Overflow = true → s.f.timer1Overflow = true

theorem LoopFrame.refl (s : State) : LoopFrame s s := ⟨rfl, rfl, rfl, id, id, id⟩

theorem LoopFrame.trans {s t u : State} (h₁ : LoopFrame s t) (h₂ : LoopFrame t u) :
    LoopFrame s u where
  pins := h₂.pins.trans h₁.pins
  events := h₂.events.trans h₁.events
  booted := h₂.booted.trans h₁.booted
  readButtons := h₁.readButtons ∘ h₂.readButtons
  stopGenerator := h₁.stopGenerator ∘ h₂.stopGenerator
  timer1Overflow := h₁.timer1Overflow ∘ h₂.timer1Overflow

/-- A generator operation is within the loop's frame. -/
theorem GenFrame.toLoopFrame {s t : State} (h : GenFrame s t) : LoopFrame s t where
  pins := h.pins
  events := h.events
  booted := h.booted
  readButtons := by rw [h.f]; exact id
  stopGenerator := by rw [h.f]; exact id
  timer1Overflow := by rw [h.f]; exact id

/-- A write to the button records alone is within the loop's frame. -/
theorem LoopFrame.of_bs {s t : State} (h : t = { s with bs := t.bs }) : LoopFrame s t := by
  rw [h]; exact ⟨rfl, rfl, rfl, id, id, id⟩

theorem setPhase_loopFrame (s : State) (v : Phase) : LoopFrame s (s.setPhase v) :=
  ⟨rfl, rfl, rfl, id, id, id⟩

theorem setReadButtons_false_loopFrame (s : State) : LoopFrame s (s.setReadButtons false) :=
  ⟨rfl, rfl, rfl, by simp, id, id⟩

theorem setStopGenerator_false_loopFrame (s : State) : LoopFrame s (s.setStopGenerator false) :=
  ⟨rfl, rfl, rfl, id, by simp, id⟩

theorem setTimer1Overflow_false_loopFrame (s : State) : LoopFrame s (s.setTimer1Overflow false) :=
  ⟨rfl, rfl, rfl, id, id, by simp⟩

/-! ### The dispatcher -/

theorem serveButton_loopFrame {p : Params} {b : Button} {s t : State}
    (h : serveButton p b s = .next t) : LoopFrame s t := by
  obtain ⟨-, rfl⟩ | ⟨-, u, hu, rfl⟩ := serveButton_cases h
  · exact .refl _
  · exact (runGenOp_frame hu).toLoopFrame.trans (.of_bs rfl)

theorem serveButtons_loopFrame {p : Params} {s t : State} (h : serveButtons p s = .next t) :
    LoopFrame s t := by
  obtain ⟨u, v, hu, hv, ht⟩ := serveButtons_cases h
  exact (serveButton_loopFrame hu).trans
    ((serveButton_loopFrame hv).trans (serveButton_loopFrame ht))

theorem dspStep_loopFrame {p : Params} {s t : State} (h : dspStep p s = .next t) :
    LoopFrame s t := by
  obtain ⟨-, -, rfl⟩ | ⟨-, -, -, rfl⟩ | ⟨-, -, -, u, hu, rfl⟩ | ⟨-, -, rfl⟩ | ⟨-, -, u, hu, rfl⟩ |
    ⟨-, -, rfl⟩ | ⟨-, -, u, hu, rfl⟩ := dspStep_cases h
  · exact setPhase_loopFrame s _
  · exact (setTimer1Overflow_false_loopFrame s).trans (setPhase_loopFrame _ _)
  · exact (genOvf_frame hu).toLoopFrame.trans
      ((setTimer1Overflow_false_loopFrame u).trans (setPhase_loopFrame _ _))
  · exact setPhase_loopFrame s _
  · exact (setStopGenerator_false_loopFrame s).trans
      ((genStop_frame hu).toLoopFrame.trans (setPhase_loopFrame u _))
  · exact setPhase_loopFrame s _
  · have hsample : LoopFrame (s.setReadButtons false)
        (sampleButtons p (s.setReadButtons false)) := .of_bs rfl
    exact (setReadButtons_false_loopFrame s).trans
      (hsample.trans ((serveButtons_loopFrame hu).trans (setPhase_loopFrame u _)))

/-! ### The families of LOOP words -/

/-- An operation on the button an identifier selects changes the button records alone, if it does
so on every button. -/
theorem onButton_changes_bs_only {op : Button → State → State} (id : ButtonId) (s : State)
    (h : ∀ b, op b s = { s with bs := (op b s).bs }) :
    onButton id op s = { s with bs := (onButton id op s).bs } := by
  unfold onButton
  cases buttonOf id with
  | none => rfl
  | some b => exact h b

theorem exec_buttonWord_changes_bs_only {i : Instr} {s t : State} (hi : isButtonWord i = true)
    (h : exec i s = .next t) : t = { s with bs := t.bs } := by
  cases i with
  | btnUpdate id smp => cases h; exact onButton_changes_bs_only id s fun _ => rfl
  | btnClrP id => cases h; exact onButton_changes_bs_only id s fun _ => rfl
  | btnClrC id => cases h; exact onButton_changes_bs_only id s fun _ => rfl
  | btnClrL id => cases h; exact onButton_changes_bs_only id s fun _ => rfl
  | _ => cases hi

/-- Every `GEN` word runs one of the operations of the button table's alphabet. -/
theorem exec_genWord_eq_runGenOp {i : Instr} (hi : isGenWord i = true) :
    ∃ op, exec i = runGenOp params op := by
  cases i with
  | genInit => exact ⟨.init, rfl⟩
  | genToggleMode => exact ⟨.toggleMode, rfl⟩
  | genSetAuto => exact ⟨.setAuto, rfl⟩
  | genFreqUp => exact ⟨.freqUp, rfl⟩
  | genFreqDown => exact ⟨.freqDown, rfl⟩
  | genOvf => exact ⟨.ovf, rfl⟩
  | genStop => exact ⟨.stop, rfl⟩
  | genStopFast => exact ⟨.stopFast, rfl⟩
  | genSetManual lvl => exact ⟨.setManual lvl, rfl⟩
  | _ => cases hi

theorem exec_genWord_frame {i : Instr} {s t : State} (hi : isGenWord i = true)
    (h : exec i s = .next t) : GenFrame s t := by
  obtain ⟨op, hop⟩ := exec_genWord_eq_runGenOp hi
  rw [hop] at h
  exact runGenOp_frame h

/-- The LOOP words are the two families and the dispatcher's step. -/
theorem loopWord_cases {i : Instr} (hi : agentOf i = .loop) :
    isButtonWord i = true ∨ isGenWord i = true ∨ i = .dspStep := by
  cases i with
  | btnUpdate | btnClrP | btnClrC | btnClrL => exact .inl rfl
  | dspStep => exact .inr (.inr rfl)
  | irqTick | irqOvf | irqHalt | pinSet => cases hi
  | _ => exact .inr (.inl rfl)

theorem exec_loopWord_frame {i : Instr} {s t : State} (hi : agentOf i = .loop)
    (h : exec i s = .next t) : LoopFrame s t := by
  obtain hb | hg | rfl := loopWord_cases hi
  · exact .of_bs (exec_buttonWord_changes_bs_only hb h)
  · exact (exec_genWord_frame hg h).toLoopFrame
  · exact dspStep_loopFrame h

/-- Settles O45: the frame of the loop, and the two frames of its families. -/
theorem loopNeverSetsFlags : Obligations.LoopNeverSetsFlags := by
  intro i s t hi h
  obtain ⟨hpins, hevents, hbooted, hread, hstop, hovf⟩ := exec_loopWord_frame hi h
  refine ⟨hpins, hevents, hbooted, hread, hstop, hovf,
    fun hb => exec_buttonWord_changes_bs_only hb h, fun hg => ?_⟩
  have hframe := exec_genWord_frame hg h
  exact ⟨hframe.bs, hframe.f, hframe.phase⟩

end Sys2Proof.Machine
end

section
/-! PROOFS about the button debouncer (40_debouncer.md): a sample never clears a latch (O9), and an
unrecognised identifier makes every operation a no-op (O7). -/

namespace Sys2Proof.Machine

/-! ## The button an operation reaches -/

/-- An operation by the identifier of a button acts on that button. -/
@[simp] theorem onButton_idOf (b : Button) (op : Button → State → State) (s : State) :
    onButton (idOf b) op s = op b s := by
  cases b <;> rfl

/-- An operation by `id = 3` acts on no button (R104). -/
@[simp] theorem onButton_unrecognised (op : Button → State → State) (s : State) :
    onButton .unrecognised op s = s := rfl

/-- Every identifier is a button's own or the unrecognised one. -/
theorem buttonId_cases (id : ButtonId) : (∃ b, id = idOf b) ∨ id = .unrecognised := by
  cases id with
  | up => exact .inl ⟨.up, rfl⟩
  | down => exact .inl ⟨.down, rfl⟩
  | mode => exact .inl ⟨.mode, rfl⟩
  | unrecognised => exact .inr rfl

/-! ## Samples and latches -/

/-- A sample of one button leaves every latch of every button that is set set (R106). -/
theorem updateButton_keeps_latches (p : Params) (b c : Button) (smp : Sample) (s : State) :
    ((s.bs.get c).pressed = true → ((updateButton p b smp s).bs.get c).pressed = true) ∧
    ((s.bs.get c).longPressed = true → ((updateButton p b smp s).bs.get c).longPressed = true) ∧
    ((s.bs.get c).clicked = true → ((updateButton p b smp s).bs.get c).clicked = true) := by
  rw [updateButton_get]
  split
  case isTrue hc => subst hc; exact updateRecord_keeps_latches p smp _
  case isFalse => exact ⟨id, id, id⟩

/-- Settles O9: the sampled button's record keeps its latches, every other record is untouched, and
an unrecognised identifier samples nothing. -/
theorem updateNeverClearsLatch : Obligations.UpdateNeverClearsLatch := by
  intro id smp s
  refine ⟨onButton id (fun b => updateButton params b smp) s, rfl, fun c => ?_⟩
  obtain ⟨b, rfl⟩ | rfl := buttonId_cases id
  · rw [onButton_idOf]
    exact updateButton_keeps_latches params b c smp s
  · rw [onButton_unrecognised]
    exact ⟨fun h => h, fun h => h, fun h => h⟩

/-- Settles O7: each of the four operations acts through the identifier, which selects no button. -/
theorem unrecognisedButtonIsNoOp : Obligations.UnrecognisedButtonIsNoOp := by
  intro smp s
  simp only [exec, execBtnUpdate, execBtnClrP, execBtnClrC, execBtnClrL, onButton_unrecognised,
    and_self]

end Sys2Proof.Machine
end

section
/-! PROOFS about the frequency table (41_frequency_table.md): the regime tag of every level (O14), and
the order of the nominal frequencies with the overflow rates they imply (O15). Both read a bound in
hertz as a bound on the index through the table's strict monotonicity. -/

namespace Sys2Proof.Machine

/-! ## The regime tag -/

/-- The tag of the record looked up at a level is the level's regime (R121, R123). -/
@[simp] theorem regime_lookup (i : FreqIndex) : (lookup i).regime = regimeOf i := by
  unfold lookup
  cases regimeOf i <;> rfl

/-- The slow levels are those up to `SLOW_MAX_INDEX`. -/
theorem regimeOf_eq_slowSoftware_iff {i : FreqIndex} :
    regimeOf i = .slowSoftware ↔ i ≤ slowMaxIndex := by
  simp [regimeOf]

/-! ## Nominal frequencies -/

/-- The nominal frequencies ascend with the index (R120). -/
theorem nominalMilliHertz_strictMono : StrictMono nominalMilliHertz :=
  Fin.strictMono_iff_lt_succ.mpr (by decide)

/-- 200 Hz is the nominal frequency of the last slow level. -/
theorem nominalMilliHertz_slowMaxIndex : nominalMilliHertz slowMaxIndex = 200000 := rfl

/-- 10 Hz is the nominal frequency of the last level that is not yellow (R125 b). -/
theorem nominalMilliHertz_yellowAboveIndex : nominalMilliHertz yellowAboveIndex = 10000 := rfl

theorem nominalMilliHertz_le_200000_iff {i : FreqIndex} :
    nominalMilliHertz i ≤ 200000 ↔ i ≤ slowMaxIndex := by
  rw [← nominalMilliHertz_slowMaxIndex, nominalMilliHertz_strictMono.le_iff_le]

theorem nominalMilliHertz_gt_10000_iff {i : FreqIndex} :
    10000 < nominalMilliHertz i ↔ yellowAboveIndex < i := by
  rw [← nominalMilliHertz_yellowAboveIndex, nominalMilliHertz_strictMono.lt_iff_lt]

/-! ## Implied overflow rates -/

/-- At the sub-divided level a toggle takes `DIV_COUNT` overflows (R125 a). -/
theorem impliedOverflowMilliHertz_divIndex (p : Params) :
    impliedOverflowMilliHertz p divIndex = nominalMilliHertz divIndex * 2 * p.divCount.toNat := by
  simp [impliedOverflowMilliHertz, overflowsPerToggle]

/-- At every other level each overflow is a toggle, two of them a period (R126). -/
theorem impliedOverflowMilliHertz_of_ne_divIndex (p : Params) {i : FreqIndex} (h : i ≠ divIndex) :
    impliedOverflowMilliHertz p i = nominalMilliHertz i * 2 := by
  simp [impliedOverflowMilliHertz, overflowsPerToggle, h]

/-! ## The obligations -/

/-- Settles O14: the tag is the level's regime, and both 200 Hz and index 4 name the last slow
level. -/
theorem regimeOfLevel : Obligations.RegimeOfLevel := by
  intro i
  rw [regime_lookup]
  exact ⟨rfl, regimeOf_eq_slowSoftware_iff.trans nominalMilliHertz_le_200000_iff.symm⟩

/-- Settles O15: strict monotonicity of the table gives the order and the yellow bound; the rates
are the sub-divided level's and the four other slow levels'. -/
theorem nominalFrequencies : Obligations.NominalFrequencies := by
  refine ⟨fun _ _ h => nominalMilliHertz_strictMono h, fun _ => nominalMilliHertz_gt_10000_iff,
    impliedOverflowMilliHertz_divIndex params, ?_, ?_, ?_, ?_⟩
  all_goals exact impliedOverflowMilliHertz_of_ne_divIndex params (by decide)

end Sys2Proof.Machine
end

section
/-! PROOFS about the generator's output (42_generator.md): a fast stop (O29), and that every word
changes the hardware, the pin and the indicator by the events it emits alone (O48). -/

namespace Sys2Proof.Machine

open Sys2Proof.Expected

/-! ## The fast stop -/

/-- The two events of a fast stop leave the state R148 describes: the pin write replaces whatever
level the stop left behind. -/
theorem emitted_stop_writePin_low (s : State) :
    (s.emitted .stopAllGeneration).emitted (.writePin .low) = stoppedFast s := by
  simp [State.emitted, stoppedFast, stoppedHal, eventHal, eventOut, eventInd, outOfLevel]

/-- Settles O29: a fast stop completes from every state, with the events of R148. -/
theorem genStopFastResult : Obligations.GenStopFastResult :=
  ⟨rfl, fun s => (genStopFast_eq s).trans (congrArg _ (emitted_stop_writePin_low s))⟩

/-! ## Changes explained by the trace -/

/-- The way from `s` to `t` only appends to `TRACE`, never `SetIndicator(Off)`, and `HAL`, `OUT` and
`IND` change as the appended events say (R130 to R136). -/
def TraceExplained (s t : State) : Prop :=
  ∃ es : List HalEvent, t.trace = s.trace ++ es ∧ HalEvent.setIndicator .off ∉ es ∧
    t.hal = es.foldl (fun h e => eventHal e h) s.hal ∧
    t.out = es.foldl (fun o e => eventOut e o) s.out ∧
    t.ind = es.foldl (fun c e => eventInd e c) s.ind

theorem TraceExplained.trans {s t u : State} (h₁ : TraceExplained s t)
    (h₂ : TraceExplained t u) : TraceExplained s u := by
  obtain ⟨es, htrace, hoff, hhal, hout, hind⟩ := h₁
  obtain ⟨fs, htrace', hoff', hhal', hout', hind'⟩ := h₂
  refine ⟨es ++ fs, ?_⟩
  simp [htrace, htrace', hoff, hoff', hhal, hhal', hout, hout', hind, hind']

/-- Writes to the button records, the flags, `PHASE` and `PINS` need no event. -/
theorem TraceExplained.of_silent {s t : State}
    (h : t = { s with bs := t.bs, f := t.f, phase := t.phase, pins := t.pins }) :
    TraceExplained s t := by
  rw [h]; exact ⟨[], by simp⟩

theorem GenFrame.traceExplained {s t : State} (h : GenFrame s t) : TraceExplained s t := h.hardware

/-! ### The dispatcher -/

theorem serveButton_traceExplained {p : Params} {b : Button} {s t : State}
    (h : serveButton p b s = .next t) : TraceExplained s t := by
  obtain ⟨-, rfl⟩ | ⟨-, u, hu, rfl⟩ := serveButton_cases h
  · exact .of_silent rfl
  · exact (runGenOp_frame hu).traceExplained.trans (.of_silent rfl)

theorem serveButtons_traceExplained {p : Params} {s t : State} (h : serveButtons p s = .next t) :
    TraceExplained s t := by
  obtain ⟨u, v, hu, hv, ht⟩ := serveButtons_cases h
  exact (serveButton_traceExplained hu).trans
    ((serveButton_traceExplained hv).trans (serveButton_traceExplained ht))

theorem dspStep_traceExplained {p : Params} {s t : State} (h : dspStep p s = .next t) :
    TraceExplained s t := by
  obtain ⟨-, -, rfl⟩ | ⟨-, -, -, rfl⟩ | ⟨-, -, -, u, hu, rfl⟩ | ⟨-, -, rfl⟩ | ⟨-, -, u, hu, rfl⟩ |
    ⟨-, -, rfl⟩ | ⟨-, -, u, hu, rfl⟩ := dspStep_cases h
  · exact .of_silent rfl
  · exact .of_silent rfl
  · exact (genOvf_frame hu).traceExplained.trans (.of_silent rfl)
  · exact .of_silent rfl
  · have hclear : TraceExplained s (s.setStopGenerator false) := .of_silent rfl
    exact hclear.trans ((genStop_frame hu).traceExplained.trans (.of_silent rfl))
  · exact .of_silent rfl
  · have hsample : TraceExplained s (sampleButtons p (s.setReadButtons false)) := .of_silent rfl
    exact hsample.trans ((serveButtons_traceExplained hu).trans (.of_silent rfl))

/-! ### Every word -/

theorem exec_loopWord_traceExplained {i : Instr} {s t : State} (hi : agentOf i = .loop)
    (h : exec i s = .next t) : TraceExplained s t := by
  obtain hbutton | hgen | rfl := loopWord_cases hi
  · rw [exec_buttonWord_changes_bs_only hbutton h]
    exact .of_silent rfl
  · exact (exec_genWord_frame hgen h).traceExplained
  · exact dspStep_traceExplained h

/-- Of the INT and ENV words only a halt emits events, those of its fast stop. -/
theorem exec_outside_loop_traceExplained {i : Instr} {s t : State} (hi : agentOf i ≠ .loop)
    (h : exec i s = .next t) : TraceExplained s t := by
  obtain ⟨-, rfl⟩ | ⟨-, rfl⟩ | ⟨-, rfl⟩ | ⟨pins, -, rfl⟩ := exec_outside_loop_cases hi h
  · exact .of_silent rfl
  · exact .of_silent rfl
  · have hstop := (genStopFast_frame (genStopFast_eq s)).traceExplained
    exact hstop.trans (.of_silent rfl)
  · exact .of_silent rfl

/-- Settles O48: generator operations explain their changes by their frame, every other write is
silent, and explained changes compose. -/
theorem traceExplainsHardware : Obligations.TraceExplainsHardware := by
  intro i s t h
  by_cases hi : agentOf i = .loop
  · exact exec_loopWord_traceExplained hi h
  · exact exec_outside_loop_traceExplained hi h

end Sys2Proof.Machine
end

section
/-! PROOFS about the dispatcher (43_dispatcher.md): what `DSP.STEP` does in phase 1 (O33) and in
phase 2 (O34). -/

namespace Sys2Proof.Machine

/-! ## The overflow step -/

theorem step1_of_no_overflow {p : Params} {s : State} (hovf : s.f.timer1Overflow = false) :
    step1 p s = .next s := by
  simp [step1, hovf]

/-- A pending halt suppresses the callback, not the clear (R171). -/
theorem step1_of_overflow_halt {p : Params} {s : State} (hovf : s.f.timer1Overflow = true)
    (hhalt : s.f.stopGenerator = true) : step1 p s = .next (s.setTimer1Overflow false) := by
  simp [step1, hovf, hhalt]

/-- With no halt pending the callback runs first, and the flag is cleared in the state it leaves
(R171). -/
theorem step1_of_overflow_no_halt {p : Params} {s : State} (hovf : s.f.timer1Overflow = true)
    (hhalt : s.f.stopGenerator = false) :
    step1 p s = andThen (genOvf p s) fun t => .next (t.setTimer1Overflow false) := by
  simp [step1, hovf, hhalt]

/-! ## The halt step -/

theorem step2_of_no_halt {s : State} (hhalt : s.f.stopGenerator = false) : step2 s = .next s := by
  simp [step2, hhalt]

theorem step2_of_halt {s : State} (hhalt : s.f.stopGenerator = true) :
    step2 s = genStop (s.setStopGenerator false) := by
  simp [step2, hhalt]

/-! ## The word in each phase -/

theorem dspStep_of_phase_one {p : Params} {s : State} (hphase : s.phase = .one) :
    dspStep p s = andThen (step1 p s) fun t => .next (t.setPhase .two) := by
  rw [dspStep, hphase]

theorem dspStep_of_phase_two {p : Params} {s : State} (hphase : s.phase = .two) :
    dspStep p s = andThen (step2 s) fun t => .next (t.setPhase .three) := by
  rw [dspStep, hphase]

/-! ## The obligations -/

/-- Settles O33: the three cases of the overflow step, each followed by the move to phase 2. -/
theorem dspStepOne : Obligations.DspStepOne := by
  intro s hphase
  have hexec : exec .dspStep s = andThen (step1 params s) fun t => .next (t.setPhase .two) :=
    dspStep_of_phase_one hphase
  refine ⟨fun hovf => ?_, fun hovf hhalt => ?_, fun hovf hhalt => ?_⟩
  · rw [hexec, step1_of_no_overflow hovf]; rfl
  · rw [hexec, step1_of_overflow_halt hovf hhalt]; rfl
  · rw [hexec, step1_of_overflow_no_halt hovf hhalt, andThen_assoc]; rfl

/-- Settles O34: the two cases of the halt step, each followed by the move to phase 3. -/
theorem dspStepTwo : Obligations.DspStepTwo := by
  intro s hphase
  have hexec : exec .dspStep s = andThen (step2 s) fun t => .next (t.setPhase .three) :=
    dspStep_of_phase_two hphase
  refine ⟨fun hhalt => ?_, fun hhalt => ?_⟩
  · rw [hexec, step2_of_no_halt hhalt]; rfl
  · rw [hexec, step2_of_halt hhalt]; rfl

end Sys2Proof.Machine
end

section
/-! PROOFS about the interrupt events (60_exceptions.md): what `IRQ.TICK` does (O38). -/

namespace Sys2Proof.Machine

/-- Writing the value the flag already has changes nothing. -/
theorem State.setReadButtons_self (s : State) : s.setReadButtons s.f.readButtons = s := rfl

theorem exec_irqTick_eq (s : State) : exec .irqTick s = .next (s.setReadButtons true) := rfl

/-- Settles O38: a tick is one write of the flag, and a write of the value already there is lost. -/
theorem irqTickResult : Obligations.IrqTickResult := by
  refine ⟨by decide, fun s => ⟨exec_irqTick_eq s, fun hset => ?_⟩⟩
  have hlost : s.setReadButtons true = s := by
    rw [← hset, State.setReadButtons_self]
  rw [exec_irqTick_eq, hlost]

end Sys2Proof.Machine
end

section
/-! PROOFS about the consumer's latches (70_reset_and_hazards.md R225): only their own clears ever
clear `clicked` and `longPressed` (O47). -/

namespace Sys2Proof.Machine

/-- On the way from `s` to `t` no button loses `clicked` or `longPressed`. -/
def LatchesKept (s t : State) : Prop :=
  ∀ c, ((s.bs.get c).clicked = true → (t.bs.get c).clicked = true) ∧
    ((s.bs.get c).longPressed = true → (t.bs.get c).longPressed = true)

theorem LatchesKept.trans {s t u : State} (h₁ : LatchesKept s t) (h₂ : LatchesKept t u) :
    LatchesKept s u := fun c =>
  ⟨(h₂ c).1 ∘ (h₁ c).1, (h₂ c).2 ∘ (h₁ c).2⟩

theorem LatchesKept.of_bs_eq {s t : State} (h : t.bs = s.bs) : LatchesKept s t := by
  intro c
  rw [h]
  exact ⟨id, id⟩

theorem GenFrame.latchesKept {s t : State} (h : GenFrame s t) : LatchesKept s t := .of_bs_eq h.bs

/-! ### One button's operations -/

theorem updateButton_latchesKept (p : Params) (b : Button) (smp : Sample) (s : State) :
    LatchesKept s (updateButton p b smp s) := by
  intro c
  obtain ⟨-, hlong, hclicked⟩ := updateButton_keeps_latches p b c smp s
  exact ⟨hclicked, hlong⟩

/-- The dispatcher's own clear is of the third latch, `pressed`. -/
theorem clearPressed_latchesKept (b : Button) (s : State) : LatchesKept s (clearPressed b s) := by
  intro c
  rw [clearPressed_get]
  split
  case isTrue hc => subst hc; exact ⟨id, id⟩
  case isFalse => exact ⟨id, id⟩

theorem onButton_latchesKept {op : Button → State → State} (id : ButtonId) {s : State}
    (hop : ∀ b, LatchesKept s (op b s)) : LatchesKept s (onButton id op s) := by
  obtain ⟨b, rfl⟩ | rfl := buttonId_cases id
  · rw [onButton_idOf]
    exact hop b
  · exact .of_bs_eq rfl

/-! ### The consumer's clears -/

theorem idOf_injective : Function.Injective idOf := by
  intro b c
  cases b <;> cases c <;> decide

/-- Reading any button after an operation that touches no button but its own. -/
theorem onButton_get {op : Button → State → State} {s : State}
    (hop : ∀ b c, c ≠ b → (op b s).bs.get c = s.bs.get c) (id : ButtonId) (c : Button) :
    (onButton id op s).bs.get c =
      if id = idOf c then (op c s).bs.get c else s.bs.get c := by
  obtain ⟨b, rfl⟩ | rfl := buttonId_cases id
  · rw [onButton_idOf]
    split
    case isTrue hb => rw [idOf_injective hb]
    case isFalse hb => exact hop b c fun hc => hb (congrArg idOf hc.symm)
  · have hid : ButtonId.unrecognised ≠ idOf c := by cases c <;> decide
    rw [onButton_unrecognised, if_neg hid]

theorem onButton_clearClicked_get (id : ButtonId) (c : Button) (s : State) :
    (onButton id clearClicked s).bs.get c =
      if id = idOf c then { s.bs.get c with clicked := false } else s.bs.get c := by
  rw [onButton_get fun b d hd => by rw [clearClicked_get, if_neg hd], clearClicked_get, if_pos rfl]

theorem onButton_clearLongPressed_get (id : ButtonId) (c : Button) (s : State) :
    (onButton id clearLongPressed s).bs.get c =
      if id = idOf c then { s.bs.get c with longPressed := false } else s.bs.get c := by
  rw [onButton_get fun b d hd => by rw [clearLongPressed_get, if_neg hd], clearLongPressed_get,
    if_pos rfl]

/-! ### The dispatcher -/

theorem sampleButtons_latchesKept (p : Params) (s : State) :
    LatchesKept s (sampleButtons p s) :=
  (updateButton_latchesKept p .up _ s).trans
    ((updateButton_latchesKept p .down _ _).trans (updateButton_latchesKept p .mode _ _))

theorem serveButton_latchesKept {p : Params} {b : Button} {s t : State}
    (h : serveButton p b s = .next t) : LatchesKept s t := by
  obtain ⟨-, rfl⟩ | ⟨-, u, hu, rfl⟩ := serveButton_cases h
  · exact .of_bs_eq rfl
  · exact (runGenOp_frame hu).latchesKept.trans (clearPressed_latchesKept b u)

theorem serveButtons_latchesKept {p : Params} {s t : State} (h : serveButtons p s = .next t) :
    LatchesKept s t := by
  obtain ⟨u, v, hu, hv, ht⟩ := serveButtons_cases h
  exact (serveButton_latchesKept hu).trans
    ((serveButton_latchesKept hv).trans (serveButton_latchesKept ht))

theorem dspStep_latchesKept {p : Params} {s t : State} (h : dspStep p s = .next t) :
    LatchesKept s t := by
  obtain ⟨-, -, rfl⟩ | ⟨-, -, -, rfl⟩ | ⟨-, -, -, u, hu, rfl⟩ | ⟨-, -, rfl⟩ | ⟨-, -, u, hu, rfl⟩ |
    ⟨-, -, rfl⟩ | ⟨-, -, u, hu, rfl⟩ := dspStep_cases h
  · exact .of_bs_eq rfl
  · exact .of_bs_eq rfl
  · exact .of_bs_eq (genOvf_frame hu).bs
  · exact .of_bs_eq rfl
  · exact .of_bs_eq (genStop_frame hu).bs
  · exact .of_bs_eq rfl
  · have hclear : LatchesKept s (s.setReadButtons false) := .of_bs_eq rfl
    have hphase : LatchesKept u (u.setPhase .one) := .of_bs_eq rfl
    exact hclear.trans ((sampleButtons_latchesKept p _).trans
      ((serveButtons_latchesKept hu).trans hphase))

/-! ### Every word -/

/-- Every word but the two clears of `clicked` and `longPressed`. -/
theorem exec_latchesKept {i : Instr} {s t : State} (hc : ∀ id, i ≠ .btnClrC id)
    (hl : ∀ id, i ≠ .btnClrL id) (h : exec i s = .next t) : LatchesKept s t := by
  by_cases hi : agentOf i = .loop
  · obtain hbutton | hgen | rfl := loopWord_cases hi
    · cases i with
      | btnUpdate id smp =>
        cases h
        exact onButton_latchesKept id fun b => updateButton_latchesKept params b smp s
      | btnClrP id =>
        cases h
        exact onButton_latchesKept id fun b => clearPressed_latchesKept b s
      | btnClrC id => exact absurd rfl (hc id)
      | btnClrL id => exact absurd rfl (hl id)
      | _ => cases hbutton
    · exact (exec_genWord_frame hgen h).latchesKept
    · exact dspStep_latchesKept h
  · obtain ⟨-, rfl⟩ | ⟨-, rfl⟩ | ⟨-, rfl⟩ | ⟨_, -, rfl⟩ := exec_outside_loop_cases hi h
    all_goals exact .of_bs_eq rfl

/-- Settles O47: a clear writes its own latch of its own button alone, and every other word keeps
both latches of every button. -/
theorem latchesPersist : Obligations.LatchesPersist := by
  intro i b s t h
  by_cases hc : ∃ id, i = .btnClrC id
  · obtain ⟨id, rfl⟩ := hc
    cases h
    rw [onButton_clearClicked_get]
    split
    case isTrue hid => exact ⟨fun _ hne => absurd (congrArg _ hid) hne, fun hset _ => hset⟩
    case isFalse => exact ⟨fun hset _ => hset, fun hset _ => hset⟩
  · by_cases hl : ∃ id, i = .btnClrL id
    · obtain ⟨id, rfl⟩ := hl
      cases h
      rw [onButton_clearLongPressed_get]
      split
      case isTrue hid => exact ⟨fun hset _ => hset, fun _ hne => absurd (congrArg _ hid) hne⟩
      case isFalse => exact ⟨fun hset _ => hset, fun hset _ => hset⟩
    · obtain ⟨hclicked, hlong⟩ := exec_latchesKept (not_exists.1 hc) (not_exists.1 hl) h b
      exact ⟨fun hset _ => hclicked hset, fun hset _ => hlong hset⟩

end Sys2Proof.Machine
end

section
/-! PROOFS about the encoding (30_encoding.md): the two round trips between words and instructions
(O1, O2), the reserved words (O3), a word of every family (O4), and the text of an instruction
(O5). -/

namespace Sys2Proof

/-! ## From an instruction to its word and back -/

/-- The word of an instruction selects its own row, whose fields give the operands back. -/
theorem decodeWord_encode (i : Instr) : decodeWord (encode i) = .ok i := by
  cases i with
  | btnUpdate id smp => cases id <;> cases smp <;> rfl
  | btnClrP id => cases id <;> rfl
  | btnClrC id => cases id <;> rfl
  | btnClrL id => cases id <;> rfl
  | genSetManual lvl => cases lvl <;> rfl
  | pinSet pins => revert pins; decide
  | _ => rfl

/-- Settles O1: a stream is decoded word by word, and each word gives its instruction back. -/
theorem decodeOfEncode : Obligations.DecodeOfEncode := by
  intro i rest
  rw [decode, decodeWord_encode]

/-! ## From a word to its instruction and back -/

/-- A word that decodes to an instruction selects a row that builds it. -/
theorem decodeWord_eq_ok {w : Byte} {i : Instr} (h : decodeWord w = .ok i) :
    ∃ r ∈ opRows, rowSelects r w = true ∧ i = r.build w := by
  unfold decodeWord at h
  split at h
  case h_1 r hr =>
    cases h
    exact ⟨r, List.mem_of_find?_eq_some hr, List.find?_some (p := fun r => rowSelects r w) hr, rfl⟩
  case h_2 => cases h

/-- A row's fixed bits are its `match`, and its fields are the other bits: with both, the encoder
restores the word. -/
theorem encode_build :
    ∀ r ∈ opRows, ∀ w : Byte, rowSelects r w = true → encode (r.build w) = w := by
  decide

/-- Settles O2: the row a word selects builds an instruction whose encoding is the word. -/
theorem encodeOfDecode : Obligations.EncodeOfDecode := by
  intro w i h
  obtain ⟨r, hr, hsel, rfl⟩ := decodeWord_eq_ok h
  exact encode_build r hr w hsel

/-! ## Reserved words -/

/-- The decoder rejects exactly the words that select no row. -/
theorem decodeWord_eq_reserved_iff {w : Byte} :
    decodeWord w = .error (.reserved w) ↔ (opRows.filter fun r => rowSelects r w).length = 0 := by
  rw [List.length_eq_zero_iff, List.filter_eq_nil_iff, ← List.find?_eq_none, decodeWord]
  cases opRows.find? fun r => rowSelects r w <;> simp

/-- R84's ranges are the gaps of the opcode map, and its rows do not overlap. -/
theorem selectedRows_length : ∀ w : Byte,
    (opRows.filter fun r => rowSelects r w).length = if reservedWord w then 0 else 1 := by
  decide

/-- Settles O3: a word is rejected where it selects no row, which is where it is reserved. -/
theorem reservedWordsRejected : Obligations.ReservedWordsRejected := by
  intro w
  refine ⟨?_, selectedRows_length w⟩
  rw [decodeWord_eq_reserved_iff, selectedRows_length]
  cases reservedWord w <;> simp

/-- Settles O4: each of the nine words is the encoding of its instruction. -/
theorem wordsOfTheOpcodeMap : Obligations.WordsOfTheOpcodeMap :=
  ⟨decodeWord_encode (.btnUpdate .down .pressed), decodeWord_encode (.btnClrP .mode),
    decodeWord_encode (.btnClrC .down), decodeWord_encode (.btnClrL .up),
    decodeWord_encode .genFreqUp, decodeWord_encode (.genSetManual .high),
    decodeWord_encode .dspStep, decodeWord_encode .irqHalt, decodeWord_encode (.pinSet 0b101#3)⟩

end Sys2Proof

namespace Sys2Proof.Machine

/-! ## Text -/

/-- The tokens of an instruction's operands. -/
def operandTokens : Instr → List Token
  | .btnUpdate id smp => [.name (idText id).toList, .comma, .name (sampleText smp).toList]
  | .btnClrP id | .btnClrC id | .btnClrL id => [.name (idText id).toList]
  | .genSetManual lvl => [.name (levelText lvl).toList]
  | .pinSet pins => [.name (pinsText pins).toList]
  | .genInit | .genToggleMode | .genSetAuto | .genFreqUp | .genFreqDown | .genOvf => []
  | .genStop | .genStopFast | .dspStep | .irqTick | .irqOvf | .irqHalt => []

/-- A line of the disassembler splits into the mnemonic and the operands. -/
theorem tokens_disassemble (i : Instr) :
    tokens (disassemble i).toList = .name (mnemonicOf i).toList :: operandTokens i := by
  cases i with
  | btnUpdate id smp => cases id <;> cases smp <;> decide
  | btnClrP id => cases id <;> decide
  | btnClrC id => cases id <;> decide
  | btnClrL id => cases id <;> decide
  | genSetManual lvl => cases lvl <;> decide
  | pinSet pins => revert pins; decide
  | _ => decide

theorem parseId_idText (id : ButtonId) : parseId (idText id).toList = some id := by
  cases id <;> decide

theorem parseSample_sampleText (smp : Sample) : parseSample (sampleText smp).toList = some smp := by
  cases smp <;> decide

theorem parseLevel_levelText (lvl : Level) : parseLevel (levelText lvl).toList = some lvl := by
  cases lvl <;> decide

theorem parsePins_pinsText (pins : BitVec 3) :
    parsePins [.name (pinsText pins).toList] = some (pins, []) := by
  revert pins; decide

/-- Only three mnemonics take a pin set. -/
theorem parsePinLine_of_other {m : List Char} (hset : m ≠ "PIN.SET".toList)
    (htick : m ≠ "TICK".toList) (hhold : m ≠ "HOLD".toList) (operands : List Token) :
    parsePinLine m operands = none := by
  unfold parsePinLine
  split <;> simp only [hset, htick, hhold, if_false]

/-- A line with one operand that is no pin set. -/
theorem parseLine_unary {m : List Char} (hset : m ≠ "PIN.SET".toList) (htick : m ≠ "TICK".toList)
    (hhold : m ≠ "HOLD".toList) (cs : List Char) :
    parseLine [.name m, .name cs] = parseUnary m cs := by
  simp only [parseLine, parsePinLine_of_other hset htick hhold]

/-- A pin set after its mnemonic, however it is written. -/
theorem parseLine_pinSet {cs : List Char} {pins : BitVec 3}
    (h : parsePins [.name cs] = some (pins, [])) :
    parseLine [.name "PIN.SET".toList, .name cs] = some [wordEvent (.pinSet pins)] := by
  simp only [parseLine, parsePinLine, h, if_true]

/-- A button after a clear's mnemonic. -/
theorem parseLine_clear {cs : List Char} {id : ButtonId} (h : parseId cs = some id) :
    parseLine [.name "BTN.CLRP".toList, .name cs] = some [wordEvent (.btnClrP id)] ∧
    parseLine [.name "BTN.CLRC".toList, .name cs] = some [wordEvent (.btnClrC id)] ∧
    parseLine [.name "BTN.CLRL".toList, .name cs] = some [wordEvent (.btnClrL id)] := by
  refine ⟨?_, ?_, ?_⟩ <;>
    rw [parseLine_unary (by decide) (by decide) (by decide), parseUnary, h]
  · rw [if_pos rfl]; rfl
  · rw [if_neg (by decide), if_pos rfl]; rfl
  · rw [if_neg (by decide), if_neg (by decide), if_pos rfl]; rfl

/-- A level after its mnemonic. -/
theorem parseLine_setManual {cs : List Char} {lvl : Level} (h : parseLevel cs = some lvl) :
    parseLine [.name "GEN.SETMANUAL".toList, .name cs] = some [wordEvent (.genSetManual lvl)] := by
  rw [parseLine_unary (by decide) (by decide) (by decide), parseUnary, h, if_neg (by decide),
    if_neg (by decide), if_neg (by decide), if_pos rfl]
  rfl

/-- A button and a sample after their mnemonic. -/
theorem parseLine_update {cs ds : List Char} {id : ButtonId} {smp : Sample}
    (hid : parseId cs = some id) (hsmp : parseSample ds = some smp) :
    parseLine [.name "BTN.UPDATE".toList, .name cs, .comma, .name ds] =
      some [wordEvent (.btnUpdate id smp)] := by
  simp only [parseLine, parseUpdate, hid, hsmp, if_true,
    parsePinLine_of_other (m := "BTN.UPDATE".toList) (by decide) (by decide) (by decide)]

/-- The tokens of an instruction are read as its word. -/
theorem parseLine_operandTokens (i : Instr) :
    parseLine (.name (mnemonicOf i).toList :: operandTokens i) = some [wordEvent i] := by
  cases i with
  | btnUpdate id smp => exact parseLine_update (parseId_idText id) (parseSample_sampleText smp)
  | btnClrP id => exact (parseLine_clear (parseId_idText id)).1
  | btnClrC id => exact (parseLine_clear (parseId_idText id)).2.1
  | btnClrL id => exact (parseLine_clear (parseId_idText id)).2.2
  | genSetManual lvl => exact parseLine_setManual (parseLevel_levelText lvl)
  | pinSet pins => exact parseLine_pinSet (parsePins_pinsText pins)
  | _ => decide

/-- Settles O5: a line splits into mnemonic and operands, and these are read back. -/
theorem assembleOfDisassemble : Obligations.AssembleOfDisassemble := by
  intro i
  rw [assembleLine, tokens_disassemble, parseLine_operandTokens]
  rfl

end Sys2Proof.Machine
end

section
/-! PROOFS about the generator's operations (42_generator.md): each as an equation with the state
the rules expect (O16 to O26, O28, O30). Apart from a pin write that clashes with the waveform generator the
operations are total, so the equations need no invariant. -/

namespace Sys2Proof.Machine

open Sys2Proof.Expected

/-! ## Levels -/

/-- A fast level is no slow one. -/
theorem not_slow_of_fast {i : FreqIndex} (h : 5 ≤ i) : ¬ i ≤ 4 := by revert i; decide

/-- Below a slow level there is no fast one. -/
theorem not_fast_of_succ_slow {i j : Fin 12} (h : j.val = i.val + 1) (hj : j ≤ 4) : ¬ 5 ≤ i := by
  omega

/-- The level above `j` is fast from `j = 4` on. -/
theorem succ_fast_iff {i j : Fin 12} (h : j.val + 1 = i.val) : 5 ≤ i ↔ ¬ j < 4 := by omega

theorem not_lt_four_of_fast {j : Fin 12} (h : 5 ≤ j) : ¬ j < 4 := by omega

@[simp] theorem toggleColour_high (i : FreqIndex) :
    toggleColour i .high = if 2 < i then .autoYellow else .autoGreen := rfl

@[simp] theorem toggleColour_low (i : FreqIndex) :
    toggleColour i .low = if 2 < i then .autoYellow else .autoRed := rfl

/-! ## Toggles (R138) -/

theorem slowToggle_eq {s : State} (h : s.hal.gen ≠ .fast) :
    slowToggle s = .next (toggled s s.g.ovfCount) := by
  by_cases hs : s.g.state = .slowAutoHigh
  · rw [slowToggle_from_high hs, toggleTo_next .low h]
    simp [toggled, hs, State.emitted, State.setGenState, eventHal, eventOut, eventInd, outOfLevel,
      slowState]
  · rw [slowToggle_from_other hs, toggleTo_next .high h]
    simp [toggled, hs, State.emitted, State.setGenState, eventHal, eventOut, eventInd, outOfLevel,
      slowState]

theorem toggleTo_fast {s : State} (lvl : Level) (h : s.hal.gen = .fast) :
    toggleTo lvl s = .refused .writePinWhileFast := by
  simp [toggleTo, emit, h]

theorem slowToggle_fast {s : State} (h : s.hal.gen = .fast) :
    slowToggle s = .refused .writePinWhileFast := by
  by_cases hs : s.g.state = .slowAutoHigh
  · rw [slowToggle_from_high hs, toggleTo_fast .low h]
  · rw [slowToggle_from_other hs, toggleTo_fast .high h]

/-! ## Auto mode -/

/-- Entry into Auto mode completes from every state: the slow branch programs the timer before it
writes the pin, the fast branch writes no pin (R137 to R139). -/
theorem enterAuto_eq (s : State) : enterAuto s = .next (autoEntered s s.g.freqIndex) := by
  rcases slow_or_fast s.g.freqIndex with hi | hi
  · rw [enterAuto, reconfigure_slow (s := (s.setMode .auto).setGenState .manualLow) rfl hi,
      andThen_next, autoStep_slow (by exact hi), slowToggle_eq (by simp [eventHal])]
    by_cases hy : 2 < s.g.freqIndex <;>
      simp [toggled, autoEntered, hi, hy, State.emitted, State.setOvfCount, State.setGenState,
        State.setMode, eventHal, eventOut, eventInd]
  · rw [enterAuto, reconfigure_fast (s := (s.setMode .auto).setGenState .manualLow) rfl hi,
      andThen_next, autoStep_fast (by exact hi)]
    simp [autoEntered, not_slow_of_fast hi, State.emitted, State.setOvfCount, State.setGenState,
      State.setMode, eventHal, eventOut, eventInd]

theorem genInit_eq (p : Params) (s : State) :
    genInit p s = .next (autoEntered s p.defaultIndex) :=
  enterAuto_eq _

theorem genSetAuto_auto {s : State} (h : s.g.mode = .auto) : genSetAuto s = .next s := by
  simp [genSetAuto, h]

theorem genSetAuto_manual {s : State} (h : s.g.mode = .manual) :
    genSetAuto s = .next (autoEntered s s.g.freqIndex) := by
  simp [genSetAuto, h, enterAuto_eq]

/-! ## Manual mode -/

theorem pulseEvents_same (lvl : Level) : pulseEvents lvl (manualState lvl) = manualPulse lvl := by
  cases lvl <;> rfl

theorem pulseEvents_other {lvl : Level} {st : GenState} (h : st ≠ manualState lvl) :
    pulseEvents lvl st = [] := by simp [pulseEvents, h]

/-- A pulse, where there is one, leaves its mark on the pin, the indicator and `TRACE` alone. -/
theorem emitAll_pulseEvents {s : State} (lvl : Level) (st : GenState) (hg : s.hal.gen ≠ .fast) :
    ∃ o c, emitAll (pulseEvents lvl st) s =
      .next { s with out := o, ind := c, trace := s.trace ++ pulseEvents lvl st } := by
  unfold pulseEvents
  split
  · refine ⟨outOfLevel lvl.opposite, manualColour lvl.opposite, ?_⟩
    simp [emit, pinClash_writePin_of_ne_fast _ hg, State.emitted, eventHal, eventOut, eventInd]
  · exact ⟨s.out, s.ind, by simp⟩

/-- The level's own pin write and indicator replace those of a pulse (R143). -/
theorem settleManual_eq {s : State} (lvl : Level) (hm : s.g.mode = .manual)
    (hg : s.hal.gen ≠ .fast) :
    settleManual lvl s =
      .next (manualAt s lvl s.hal (pulseEvents lvl s.g.state ++ manualEvents lvl)) := by
  obtain ⟨o, c, hpulse⟩ := emitAll_pulseEvents lvl s.g.state hg
  rw [settleManual, hpulse]
  cases lvl <;>
    simp [emit, pinClash_writePin_of_ne_fast _ hg, State.emitted, State.setGenState, eventHal,
      eventOut, eventInd, outOfLevel, manualAt, manualEvents, manualState, manualColour, hm]

theorem settleManual_fast {s : State} (lvl : Level) (h : s.hal.gen = .fast) :
    settleManual lvl s = .refused .writePinWhileFast := by
  by_cases hs : s.g.state = manualState lvl <;> simp [settleManual, pulseEvents, hs, emit, h]

theorem genSetManual_auto {s : State} (lvl : Level) (h : s.g.mode = .auto) :
    genSetManual lvl s = .next (manualAt s lvl (stoppedHal s.hal)
      (.stopAllGeneration :: (pulseEvents lvl s.g.state ++ manualEvents lvl))) := by
  simp only [genSetManual, h]
  rw [reconfigure_manual rfl, andThen_next, settleManual_eq lvl rfl (by simp [eventHal])]
  simp [manualAt, stoppedHal, eventHal, State.emitted]

theorem genSetManual_manual {s : State} (lvl : Level) (h : s.g.mode = .manual) :
    genSetManual lvl s = settleManual lvl s := by simp [genSetManual, h]

theorem genToggleMode_auto {s : State} (h : s.g.mode = .auto) :
    genToggleMode s = genSetManual .low s := by simp [genToggleMode, h]

theorem genToggleMode_manual {s : State} (h : s.g.mode = .manual) :
    genToggleMode s = genSetAuto s := by simp [genToggleMode, h]

/-! ## Frequency changes -/

/-- A slow timer programmed from a state that is not FastAuto is all there is to do. -/
theorem changeIndex_slow {s : State} {i : FreqIndex} (h : s.g.mode = .auto) (hi : i ≤ 4)
    (hs : s.g.state ≠ .fastAuto) : changeIndex i s = .next (slowReprogrammed s i) := by
  rw [changeIndex, reconfigure_slow (s := s.setFreqIndex i) h hi, andThen_next,
    followRegime_slow (by exact hi), if_neg (by exact hs)]
  cases hout : s.out <;>
    simp [slowReprogrammed, State.emitted, State.setFreqIndex, State.setOvfCount, eventHal,
      eventOut, eventInd, releaseWave, hout]

/-- From FastAuto a slow index is entered as from Manual mode: the toggle goes high (R145). -/
theorem changeIndex_slow_of_fastAuto {s : State} {i : FreqIndex} (h : s.g.mode = .auto)
    (hi : i ≤ 4) (hs : s.g.state = .fastAuto) : changeIndex i s = .next (autoEntered s i) := by
  rw [changeIndex, reconfigure_slow (s := s.setFreqIndex i) h hi, andThen_next,
    followRegime_slow (by exact hi), if_pos (by exact hs), slowToggle_eq (by simp [eventHal])]
  simp [toggled, autoEntered, hi, hs, h, State.emitted, State.setOvfCount, State.setFreqIndex,
    eventHal, eventOut, eventInd]

/-- A fast index is entered alike from every state. -/
theorem changeIndex_fast {s : State} {i : FreqIndex} (h : s.g.mode = .auto) (hi : 5 ≤ i) :
    changeIndex i s = .next (autoEntered s i) := by
  rw [changeIndex, reconfigure_fast (s := s.setFreqIndex i) h hi, andThen_next,
    followRegime_fast (by exact hi)]
  simp [autoEntered, not_slow_of_fast hi, h, State.emitted, State.setOvfCount, State.setGenState,
    State.setFreqIndex, eventHal, eventOut, eventInd]

theorem stepIndex_manual {n : FreqIndex → Option FreqIndex} {s : State} (h : s.g.mode = .manual) :
    stepIndex n s = .next s := by simp [stepIndex, h]

theorem stepIndex_none {n : FreqIndex → Option FreqIndex} {s : State}
    (h : n s.g.freqIndex = none) : stepIndex n s = .next s := by
  cases hm : s.g.mode <;> simp [stepIndex, hm, h]

theorem stepIndex_some {n : FreqIndex → Option FreqIndex} {s : State} {i : FreqIndex}
    (hm : s.g.mode = .auto) (h : n s.g.freqIndex = some i) : stepIndex n s = changeIndex i s := by
  simp [stepIndex, hm, h]

theorem indexUp_eq_some_iff {i j : FreqIndex} : indexUp i = some j ↔ j.val = i.val + 1 := by
  unfold indexUp
  split
  case isTrue h => rw [Option.some_inj, Fin.ext_iff]; exact eq_comm
  case isFalse h => simp; omega

theorem indexDown_eq_some_iff {i j : FreqIndex} : indexDown i = some j ↔ j.val + 1 = i.val := by
  obtain ⟨_ | k, hk⟩ := i
  · simp [indexDown]
  · simp [indexDown, Fin.ext_iff, eq_comm]

/-! ## Overflows (R146) -/

theorem genOvf_outside {p : Params} {s : State} (h : s.g.mode = .manual ∨ 5 ≤ s.g.freqIndex) :
    genOvf p s = .next s := by
  cases hm : s.g.mode with
  | manual => simp [genOvf, hm]
  | auto =>
    have hi : 5 ≤ s.g.freqIndex := h.resolve_left (by simp [hm])
    simp only [genOvf, hm, lookup_fast hi, RegimeConfig.regime]

theorem genOvf_undivided {p : Params} {s : State} (hm : s.g.mode = .auto)
    (h0 : s.g.freqIndex ≠ 0) (hi : s.g.freqIndex ≤ 4) : genOvf p s = slowToggle s := by
  simp only [genOvf, hm, lookup_slow hi, RegimeConfig.regime]
  exact if_neg h0

theorem genOvf_divided {p : Params} {s : State} (hm : s.g.mode = .auto)
    (h0 : s.g.freqIndex = 0) : genOvf p s = countOverflow p s := by
  have hi : s.g.freqIndex ≤ 4 := h0 ▸ by decide
  simp only [genOvf, hm, lookup_slow hi, RegimeConfig.regime]
  exact if_pos h0

theorem countOverflow_below {p : Params} {s : State} (h : s.g.ovfCount + 1 < p.divCount) :
    countOverflow p s = .next (s.setOvfCount (s.g.ovfCount + 1)) :=
  if_neg (BitVec.not_le.2 h)

theorem countOverflow_reached {p : Params} {s : State} (h : p.divCount ≤ s.g.ovfCount + 1) :
    countOverflow p s = slowToggle (s.setOvfCount 0) := if_pos h

/-! ## The stops (R147, R148) -/

theorem genStopFast_eq_stoppedFast (s : State) : genStopFast s = .next (stoppedFast s) :=
  (genStopFast_eq s).trans (congrArg _ (emitted_stop_writePin_low s))

/-- A stop begins with the events of a fast stop. -/
theorem genStop_eq (s : State) : genStop s = .next (stopped s) := by
  have hfast : emitAll [.stopAllGeneration, .writePin .low] s = .next (stoppedFast s) :=
    genStopFast_eq_stoppedFast s
  rw [genStop, hfast]
  simp [emit, stopped, stoppedFast, State.emitted, State.setMode, State.setGenState, eventHal,
    eventOut, eventInd]

/-! ## Levels and modes that agree (R29) -/

/-- In Auto mode the state is none of the manual ones, so no pulse is due. -/
theorem ModeInv.no_pulse {s : State} (h : ModeInv s) (hm : s.g.mode = .auto) (lvl : Level) :
    pulseEvents lvl s.g.state = [] := by
  refine pulseEvents_other fun hs => ?_
  have hmanual : s.g.mode = .manual := h.1.2 (by cases lvl <;> simp [hs, manualState])
  simp [hm] at hmanual

/-- In Auto mode the state is FastAuto exactly at a fast index. -/
theorem ModeInv.fastAuto_iff {s : State} (h : ModeInv s) (hm : s.g.mode = .auto) :
    s.g.state = .fastAuto ↔ 5 ≤ s.g.freqIndex := by
  obtain ⟨-, hslow, hfast⟩ := h
  refine ⟨fun hs => ?_, hfast hm⟩
  refine (slow_or_fast s.g.freqIndex).resolve_left fun hi => ?_
  rcases hslow hm hi with h' | h' <;> simp [hs] at h'

/-! ## The obligations -/

/-- Settles O16: `GEN.INIT` enters Auto mode at the default index. -/
theorem genInitResult : Obligations.GenInitResult := genInit_eq params

/-- Settles O17: nothing in Auto mode, an entry at the present index in Manual mode. -/
theorem genSetAutoResult : Obligations.GenSetAutoResult :=
  fun _ => ⟨genSetAuto_auto, genSetAuto_manual⟩

/-- Settles O19: in Auto mode no state is a manual level's, so there is no pulse. -/
theorem genSetManualFromAuto : Obligations.GenSetManualFromAuto := by
  intro lvl s hinv hm
  have hset := genSetManual_auto lvl hm
  rwa [hinv.no_pulse hm] at hset

/-- Settles O18: from Auto mode `GEN.SETMANUAL Low`, from Manual mode `GEN.SETAUTO`. -/
theorem genToggleModeResult : Obligations.GenToggleModeResult := by
  intro s hinv
  refine ⟨fun hm => ?_, fun hm => ?_⟩
  · exact (genToggleMode_auto hm).trans (genSetManualFromAuto .low s hinv hm)
  · exact (genToggleMode_manual hm).trans (genSetAuto_manual hm)

/-- Settles O20: the two cases of the pulse's condition. -/
theorem genSetManualInManual : Obligations.GenSetManualInManual := by
  intro lvl s hm hg
  have hset : exec (.genSetManual lvl) s =
      .next (manualAt s lvl s.hal (pulseEvents lvl s.g.state ++ manualEvents lvl)) :=
    (genSetManual_manual lvl hm).trans (settleManual_eq lvl hm hg)
  refine ⟨fun hs => ?_, fun hs => ?_⟩
  · have hsame : s.g.state = manualState lvl := by cases lvl <;> exact hs
    rwa [hsame, pulseEvents_same] at hset
  · have hother : s.g.state ≠ manualState lvl := by cases lvl <;> exact hs
    rwa [pulseEvents_other hother] at hset

/-- Settles O21: Manual mode and a missing neighbour both end a frequency operation. -/
theorem frequencyNoEffect : Obligations.FrequencyNoEffect := by
  intro s
  refine ⟨fun hm => ⟨stepIndex_manual hm, stepIndex_manual hm⟩, fun hi => ?_, fun hi => ?_⟩
  · exact stepIndex_none (hi ▸ by decide)
  · exact stepIndex_none (hi ▸ by decide)

/-- Settles O22: at a slow index R29 excludes FastAuto, so the timer is programmed and nothing
follows; a fast index is entered. -/
theorem genFreqUpResult : Obligations.GenFreqUpResult := by
  intro s j hinv hm hj
  have hup : exec .genFreqUp s = changeIndex j s := stepIndex_some hm (indexUp_eq_some_iff.2 hj)
  rw [hup]
  rcases slow_or_fast j with hi | hi
  · have hs : s.g.state ≠ .fastAuto := mt (hinv.fastAuto_iff hm).1 (not_fast_of_succ_slow hj hi)
    rw [if_pos hi, changeIndex_slow hm hi hs]
  · rw [if_neg (not_slow_of_fast hi), changeIndex_fast hm hi]

/-- Settles O23: the state is FastAuto, and the level entered anew, exactly from index 5 on. -/
theorem genFreqDownResult : Obligations.GenFreqDownResult := by
  intro s j hinv hm hj
  have hdown : exec .genFreqDown s = changeIndex j s :=
    stepIndex_some hm (indexDown_eq_some_iff.2 hj)
  rw [hdown]
  rcases slow_or_fast j with hi | hi
  · by_cases hj4 : j < 4
    · have hs : s.g.state ≠ .fastAuto := fun hs =>
        (succ_fast_iff hj).1 ((hinv.fastAuto_iff hm).1 hs) hj4
      rw [if_pos hj4, changeIndex_slow hm hi hs]
    · have hs : s.g.state = .fastAuto := (hinv.fastAuto_iff hm).2 ((succ_fast_iff hj).2 hj4)
      rw [if_neg hj4, changeIndex_slow_of_fastAuto hm hi hs]
  · rw [if_neg (not_lt_four_of_fast hi), changeIndex_fast hm hi]

/-- Settles O24: the two cases in which the callback's condition fails. -/
theorem ovfOutsideSlowRegime : Obligations.OvfOutsideSlowRegime := fun _ => genOvf_outside

/-- Settles O25: away from index 0 an overflow is a toggle. -/
theorem ovfTogglesEveryTime : Obligations.OvfTogglesEveryTime := by
  intro s hm h1 hi hg
  have h0 : s.g.freqIndex ≠ 0 := fun h => by simp [h] at h1
  exact (genOvf_undivided hm h0 hi).trans (slowToggle_eq hg)

/-- Settles O26: below 3 the count stays below `DIV_COUNT`, at 3 it reaches it. -/
theorem ovfCountsAtLowest : Obligations.OvfCountsAtLowest := by
  intro s hm h0 hg
  have hovf : exec .genOvf s = countOverflow params s := genOvf_divided hm h0
  rw [hovf]
  refine ⟨fun hc => ?_, fun hc => ?_⟩
  · exact countOverflow_below (by rw [params_divCount]; bv_omega)
  · rw [countOverflow_reached (by rw [params_divCount]; bv_omega), slowToggle_eq (by exact hg)]
    rfl

/-- Settles O28: a stop completes from every state. -/
theorem genStopResult : Obligations.GenStopResult := genStop_eq

/-- Settles O30: both operations come to a pin write. -/
theorem pinWriteWhileFastRefused : Obligations.PinWriteWhileFastRefused := by
  intro lvl s hg
  refine ⟨fun hm => ?_, fun hm h1 hi => ?_⟩
  · exact (genSetManual_manual lvl hm).trans (settleManual_fast lvl hg)
  · have h0 : s.g.freqIndex ≠ 0 := fun h => by simp [h] at h1
    exact (genOvf_undivided hm h0 hi).trans (slowToggle_fast hg)

end Sys2Proof.Machine
end

section
/-! PROOFS about the generator's invariants (42_generator.md section 4): what an operation can leave
behind, said once, and from it that every operation keeps registers, hardware and pin in agreement
(O32). -/

namespace Sys2Proof.Machine

open Sys2Proof.Expected

/-! ## What a generator operation can leave behind -/

/-- The states a generator operation but `GEN.STOPFAST` can answer, with what is known where it
answers them. -/
inductive GenOutcome (p : Params) (s : State) : State → Prop
  | unchanged : GenOutcome p s s
  | enter (i : FreqIndex) : GenOutcome p s (autoEntered s i)
  | reprogram (i : FreqIndex) : s.g.mode = .auto → i ≤ 4 → s.g.state ≠ .fastAuto →
      GenOutcome p s (slowReprogrammed s i)
  | manualFromAuto (lvl : Level) (es : List HalEvent) : s.g.mode = .auto →
      GenOutcome p s (manualAt s lvl (stoppedHal s.hal) es)
  | manualAgain (lvl : Level) (es : List HalEvent) : s.g.mode = .manual →
      GenOutcome p s (manualAt s lvl s.hal es)
  | count : s.g.freqIndex = 0 → s.g.ovfCount + 1 < p.divCount →
      GenOutcome p s (s.setOvfCount (s.g.ovfCount + 1))
  | toggle (c : BitVec 8) : s.g.mode = .auto → s.g.freqIndex ≤ 4 → s.hal.gen ≠ .fast →
      (c = 0 ∨ c = s.g.ovfCount) → GenOutcome p s (toggled s c)
  | stop : GenOutcome p s (stopped s)

/-- The waveform generator runs at a fast level of Auto mode only: what a pin write needs. -/
def WaveOnlyWhenFast (s : State) : Prop :=
  s.hal.gen = .fast → s.g.mode = .auto ∧ 5 ≤ s.g.freqIndex

theorem WaveOnlyWhenFast.of_manual {s : State} (h : WaveOnlyWhenFast s) (hm : s.g.mode = .manual) :
    s.hal.gen ≠ .fast := fun hg => by
  obtain ⟨hauto, -⟩ := h hg
  simp [hm] at hauto

theorem WaveOnlyWhenFast.of_slow {s : State} (h : WaveOnlyWhenFast s) (hi : s.g.freqIndex ≤ 4) :
    s.hal.gen ≠ .fast := fun hg => not_slow_of_fast (h hg).2 hi

theorem genSetAuto_outcome (p : Params) (s : State) :
    ∃ t, genSetAuto s = .next t ∧ GenOutcome p s t := by
  cases hm : s.g.mode with
  | auto => exact ⟨_, genSetAuto_auto hm, .unchanged⟩
  | manual => exact ⟨_, genSetAuto_manual hm, .enter _⟩

theorem genSetManual_outcome (p : Params) (lvl : Level) {s : State} (h : WaveOnlyWhenFast s) :
    ∃ t, genSetManual lvl s = .next t ∧ GenOutcome p s t := by
  cases hm : s.g.mode with
  | auto => exact ⟨_, genSetManual_auto lvl hm, .manualFromAuto lvl _ hm⟩
  | manual =>
    have hset := (genSetManual_manual lvl hm).trans (settleManual_eq lvl hm (h.of_manual hm))
    exact ⟨_, hset, .manualAgain lvl _ hm⟩

theorem genToggleMode_outcome (p : Params) {s : State} (h : WaveOnlyWhenFast s) :
    ∃ t, genToggleMode s = .next t ∧ GenOutcome p s t := by
  cases hm : s.g.mode with
  | auto => rw [genToggleMode_auto hm]; exact genSetManual_outcome p .low h
  | manual => rw [genToggleMode_manual hm]; exact genSetAuto_outcome p s

theorem changeIndex_outcome (p : Params) {s : State} (i : FreqIndex) (hm : s.g.mode = .auto) :
    ∃ t, changeIndex i s = .next t ∧ GenOutcome p s t := by
  rcases slow_or_fast i with hi | hi
  · by_cases hs : s.g.state = .fastAuto
    · exact ⟨_, changeIndex_slow_of_fastAuto hm hi hs, .enter i⟩
    · exact ⟨_, changeIndex_slow hm hi hs, .reprogram i hm hi hs⟩
  · exact ⟨_, changeIndex_fast hm hi, .enter i⟩

theorem stepIndex_outcome (p : Params) (n : FreqIndex → Option FreqIndex) (s : State) :
    ∃ t, stepIndex n s = .next t ∧ GenOutcome p s t := by
  cases hm : s.g.mode with
  | manual => exact ⟨s, stepIndex_manual hm, .unchanged⟩
  | auto =>
    cases hn : n s.g.freqIndex with
    | none => exact ⟨s, stepIndex_none hn, .unchanged⟩
    | some i => rw [stepIndex_some hm hn]; exact changeIndex_outcome p i hm

theorem genOvf_outcome (p : Params) {s : State} (h : WaveOnlyWhenFast s) :
    ∃ t, genOvf p s = .next t ∧ GenOutcome p s t := by
  cases hm : s.g.mode with
  | manual => exact ⟨s, genOvf_outside (.inl hm), .unchanged⟩
  | auto =>
    rcases slow_or_fast s.g.freqIndex with hi | hi
    · have hg := h.of_slow hi
      by_cases h0 : s.g.freqIndex = 0
      · rw [genOvf_divided hm h0]
        by_cases hc : s.g.ovfCount + 1 < p.divCount
        · exact ⟨_, countOverflow_below hc, .count h0 hc⟩
        · rw [countOverflow_reached (BitVec.not_lt.1 hc), slowToggle_eq (by exact hg)]
          exact ⟨_, rfl, .toggle 0 hm hi hg (.inl rfl)⟩
      · rw [genOvf_undivided hm h0 hi, slowToggle_eq hg]
        exact ⟨_, rfl, .toggle _ hm hi hg (.inr rfl)⟩
    · exact ⟨s, genOvf_outside (.inr hi), .unchanged⟩

/-- Where no pin write can clash every operation completes. -/
theorem runGenOp_outcome (p : Params) {op : GenOp} {s : State} (hop : op ≠ .stopFast)
    (h : WaveOnlyWhenFast s) : ∃ t, runGenOp p op s = .next t ∧ GenOutcome p s t := by
  cases op with
  | init => exact ⟨_, genInit_eq p s, .enter _⟩
  | toggleMode => exact genToggleMode_outcome p h
  | setAuto => exact genSetAuto_outcome p s
  | freqUp => exact stepIndex_outcome p indexUp s
  | freqDown => exact stepIndex_outcome p indexDown s
  | ovf => exact genOvf_outcome p h
  | stop => exact ⟨_, genStop_eq s, .stop⟩
  | stopFast => exact absurd rfl hop
  | setManual lvl => exact genSetManual_outcome p lvl h

/-! ## The registers of the expected states -/

theorem autoEntered_g (s : State) (i : FreqIndex) :
    (autoEntered s i).g =
      { mode := .auto, state := if i ≤ 4 then .slowAutoHigh else .fastAuto
        freqIndex := i, ovfCount := 0 } := by
  unfold autoEntered
  split <;> rfl

theorem toggled_g (s : State) (c : BitVec 8) :
    (toggled s c).g =
      { s.g with
        state := if s.g.state = .slowAutoHigh then .slowAutoLow else .slowAutoHigh
        ovfCount := c } := by
  unfold toggled
  split <;> rfl

/-! ## Mode, state and index (R29), by regime -/

section
variable {s : State}

theorem modeInv_of_manual (hm : s.g.mode = .manual)
    (hs : s.g.state = .manualLow ∨ s.g.state = .manualHigh) : ModeInv s := by
  simp [ModeInv, hm, hs]

theorem modeInv_of_slow (hm : s.g.mode = .auto) (hi : s.g.freqIndex ≤ 4)
    (hs : s.g.state = .slowAutoLow ∨ s.g.state = .slowAutoHigh) : ModeInv s := by
  refine ⟨?_, fun _ _ => hs, fun _ h5 => absurd hi (not_slow_of_fast h5)⟩
  rcases hs with hs | hs <;> simp [hm, hs]

theorem modeInv_of_fast (hm : s.g.mode = .auto) (hi : 5 ≤ s.g.freqIndex)
    (hs : s.g.state = .fastAuto) : ModeInv s :=
  ⟨by simp [hm, hs], fun _ h4 => absurd h4 (not_slow_of_fast hi), fun _ _ => hs⟩

/-- In Auto mode a state other than FastAuto is at a slow index. -/
theorem ModeInv.slow_of_ne_fastAuto (h : ModeInv s) (hm : s.g.mode = .auto)
    (hs : s.g.state ≠ .fastAuto) : s.g.freqIndex ≤ 4 :=
  (slow_or_fast s.g.freqIndex).resolve_right fun hi => hs ((h.fastAuto_iff hm).2 hi)

end

/-! ## The invariants, one at a time -/

section
variable {p : Params} {s t : State}

theorem autoEntered_modeInv (s : State) (i : FreqIndex) : ModeInv (autoEntered s i) := by
  rcases slow_or_fast i with hi | hi
  · exact modeInv_of_slow (by rw [autoEntered_g]) (by rwa [autoEntered_g])
      (.inr (by rw [autoEntered_g, if_pos hi]))
  · exact modeInv_of_fast (by rw [autoEntered_g]) (by rwa [autoEntered_g])
      (by rw [autoEntered_g, if_neg (not_slow_of_fast hi)])

theorem GenOutcome.modeInv (h : GenOutcome p s t) (hmode : ModeInv s) : ModeInv t := by
  cases h with
  | unchanged => exact hmode
  | enter i => exact autoEntered_modeInv s i
  | reprogram i hm hi hs =>
    exact modeInv_of_slow hm hi (hmode.2.1 hm (hmode.slow_of_ne_fastAuto hm hs))
  | manualFromAuto lvl es hm => exact modeInv_of_manual rfl (by cases lvl <;> simp [manualAt])
  | manualAgain lvl es hm => exact modeInv_of_manual rfl (by cases lvl <;> simp [manualAt])
  | count h0 hc => exact hmode
  | toggle c hm hi hg hc =>
    refine modeInv_of_slow (by rwa [toggled_g]) (by rwa [toggled_g]) ?_
    rw [toggled_g]
    exact (ite_eq_or_eq _ _ _)
  | stop => exact modeInv_of_manual rfl (.inl rfl)

theorem GenOutcome.countInv (h : GenOutcome p s t) (hcount : CountInv p s) : CountInv p t := by
  obtain ⟨hlt, h0⟩ := hcount
  have hpos : 0#8 < p.divCount := by bv_omega
  cases h with
  | unchanged => exact ⟨hlt, h0⟩
  | enter i => simp [CountInv, autoEntered_g, hpos]
  | reprogram i hm hi hs => simp [CountInv, slowReprogrammed, hpos]
  | manualFromAuto lvl es hm => exact ⟨hlt, h0⟩
  | manualAgain lvl es hm => exact ⟨hlt, h0⟩
  | count h0 hc => exact ⟨hc, fun _ => h0⟩
  | toggle c hm hi hg hc =>
    rcases hc with rfl | rfl
    · simp [CountInv, toggled_g, hpos]
    · simpa [CountInv, toggled_g] using ⟨hlt, h0⟩
  | stop => exact ⟨hlt, h0⟩

theorem HalInv.waveOnlyWhenFast (h : HalInv s) : WaveOnlyWhenFast s := fun hg => by
  obtain ⟨-, -, hfast⟩ := h
  obtain ⟨hm, hi, -⟩ := hfast hg
  exact ⟨hm, hi⟩

/-- In Manual mode no generation hardware runs. -/
theorem HalInv.stopped_of_manual (h : HalInv s) (hm : s.g.mode = .manual) :
    s.hal.gen = .stopped := by
  obtain ⟨-, hslow, hfast⟩ := h
  cases hg : s.hal.gen with
  | stopped => rfl
  | slow => exact absurd ((hslow hg).1.symm.trans hm) (by decide)
  | fast => exact absurd ((hfast hg).1.symm.trans hm) (by decide)

/-- Stopped hardware runs no configuration. -/
theorem halInv_of_stopped (hg : s.hal.gen = .stopped) (hirq : s.hal.ovfIrqEn = false) :
    HalInv s := by
  simp [HalInv, hg, hirq]

theorem autoEntered_halInv (s : State) (i : FreqIndex) : HalInv (autoEntered s i) := by
  rcases slow_or_fast i with hi | hi
  · simp [HalInv, autoEntered, hi]
  · simp [HalInv, autoEntered, not_slow_of_fast hi, hi]

theorem toggled_hal (s : State) (c : BitVec 8) : (toggled s c).hal = s.hal := by
  unfold toggled
  split <;> rfl

theorem GenOutcome.halInv (h : GenOutcome p s t) (hhal : HalInv s) : HalInv t := by
  cases h with
  | unchanged => exact hhal
  | enter i => exact autoEntered_halInv s i
  | reprogram i hm hi hs => simp [HalInv, slowReprogrammed, hm, hi]
  | manualFromAuto lvl es hm => exact halInv_of_stopped rfl rfl
  | manualAgain lvl es hm =>
    have hg := hhal.stopped_of_manual hm
    have hirq : s.hal.ovfIrqEn = false := by simpa [hg] using hhal.1
    exact halInv_of_stopped hg hirq
  | count h0 hc => exact hhal
  | toggle c hm hi hg hc =>
    obtain ⟨hirq, hslow, -⟩ := hhal
    simp only [HalInv, toggled_hal, toggled_g]
    exact ⟨hirq, hslow, fun hfast => absurd hfast hg⟩
  | stop => exact halInv_of_stopped rfl rfl

theorem autoEntered_outInv (s : State) (i : FreqIndex) : OutInv (autoEntered s i) := by
  by_cases hi : i ≤ 4 <;> simp [OutInv, autoEntered, hi]

theorem GenOutcome.outInv (h : GenOutcome p s t) (hmode : ModeInv s) (hhal : HalInv s)
    (hout : OutInv s) : OutInv t := by
  cases h with
  | unchanged => exact hout
  | enter i => exact autoEntered_outInv s i
  | reprogram i hm hi hs =>
    have hg := hhal.waveOnlyWhenFast.of_slow (hmode.slow_of_ne_fastAuto hm hs)
    obtain ⟨hundef, hwave⟩ := hout
    simp [OutInv, slowReprogrammed, hwave, hg, hundef]
  | manualFromAuto lvl es hm => cases lvl <;> simp [OutInv, manualAt, stoppedHal]
  | manualAgain lvl es hm =>
    cases lvl <;> simp [OutInv, manualAt, hhal.stopped_of_manual hm]
  | count h0 hc => exact hout
  | toggle c hm hi hg hc => unfold toggled; split <;> simp [OutInv, hg]
  | stop => simp [OutInv, Expected.stopped, stoppedHal]

theorem GenOutcome.indInv (h : GenOutcome p s t) (hind : IndInv s) :
    IndInv t := by
  cases h with
  | unchanged => exact hind
  | enter i => by_cases hi : i ≤ 4 <;> simp [IndInv, autoEntered, hi]
  | reprogram i hm hi hs => exact hind
  | manualFromAuto lvl es hm => cases lvl <;> simp [IndInv, manualAt]
  | manualAgain lvl es hm => cases lvl <;> simp [IndInv, manualAt]
  | count h0 hc => exact hind
  | toggle c hm hi hg hc => unfold toggled; split <;> simp [IndInv]
  | stop => simp [IndInv, Expected.stopped]

/-- The agreement of R150 leaves the waveform generator to the fast levels of Auto mode. -/
theorem Settled.waveOnlyWhenFast (h : Settled s) : WaveOnlyWhenFast s := by
  obtain ⟨hmanual, hslow, -⟩ := h
  intro hg
  cases hm : s.g.mode with
  | manual => exact absurd (hg.symm.trans (hmanual hm).1) (by decide)
  | auto =>
    refine ⟨rfl, (slow_or_fast _).resolve_left fun hi => ?_⟩
    exact absurd (hg.symm.trans (hslow hm hi).1) (by decide)

theorem settled_of_slow (hm : s.g.mode = .auto) (hi : s.g.freqIndex ≤ 4)
    (hhal : s.hal.gen = .slow ∧ s.hal.prescale = Config.ftPrescale s.g.freqIndex ∧
      s.hal.value = Config.ftReload s.g.freqIndex ∧ s.hal.ovfIrqEn = true)
    (hlow : s.g.state = .slowAutoLow → s.out = .low)
    (hhigh : s.g.state = .slowAutoHigh → s.out = .high) : Settled s := by
  obtain ⟨hgen, hpre, hval, hirq⟩ := hhal
  refine ⟨fun hm' => ?_, fun _ _ => ⟨hgen, hpre, hval, hirq, hlow, hhigh⟩,
    fun _ h5 => absurd hi (not_slow_of_fast h5)⟩
  simp [hm] at hm'

theorem autoEntered_settled (s : State) (i : FreqIndex) : Settled (autoEntered s i) := by
  rcases slow_or_fast i with hi | hi
  · refine settled_of_slow ?_ ?_ ?_ ?_ ?_ <;> simp [autoEntered, hi]
  · simp [Settled, autoEntered, not_slow_of_fast hi]

theorem GenOutcome.settled (h : GenOutcome p s t) (hmode : ModeInv s) (hset : Settled s) :
    Settled t := by
  obtain ⟨hmanual, hslow, -⟩ := id hset
  cases h with
  | unchanged => exact hset
  | enter i => exact autoEntered_settled s i
  | reprogram i hm hi hs =>
    obtain ⟨-, -, -, -, hlow, hhigh⟩ := hslow hm (hmode.slow_of_ne_fastAuto hm hs)
    refine settled_of_slow hm hi ⟨rfl, rfl, rfl, rfl⟩ (fun hs => ?_) (fun hs => ?_)
    · simp [slowReprogrammed, hlow hs]
    · simp [slowReprogrammed, hhigh hs]
  | manualFromAuto lvl es hm => cases lvl <;> simp [Settled, manualAt, stoppedHal]
  | manualAgain lvl es hm => cases lvl <;> simp [Settled, manualAt, (hmanual hm).1]
  | count h0 hc => exact hset
  | toggle c hm hi hg hc =>
    obtain ⟨hgen, hpre, hval, hirq, -, -⟩ := hslow hm hi
    unfold toggled
    split <;> exact settled_of_slow hm hi ⟨hgen, hpre, hval, hirq⟩ (by simp) (by simp)
  | stop => simp [Settled, Expected.stopped, stoppedHal]

end

/-! ## The obligation -/

/-- A `GEN` word of R150 runs one of the operations but the fast stop. -/
theorem exec_settling_eq_runGenOp {i : Instr} (hi : isSettling i = true) :
    ∃ op, op ≠ .stopFast ∧ exec i = runGenOp params op := by
  cases i with
  | genInit => exact ⟨.init, by decide, rfl⟩
  | genToggleMode => exact ⟨.toggleMode, by decide, rfl⟩
  | genSetAuto => exact ⟨.setAuto, by decide, rfl⟩
  | genFreqUp => exact ⟨.freqUp, by decide, rfl⟩
  | genFreqDown => exact ⟨.freqDown, by decide, rfl⟩
  | genOvf => exact ⟨.ovf, by decide, rfl⟩
  | genStop => exact ⟨.stop, by decide, rfl⟩
  | genSetManual lvl => exact ⟨.setManual lvl, by simp, rfl⟩
  | _ => cases hi

/-- Settles O32: registers and hardware in agreement rule out a clash, and every outcome keeps
them so. -/
theorem generatorStaysSettled : Obligations.GeneratorStaysSettled := by
  intro i s hi hmode hcount hset
  obtain ⟨op, hop, hexec⟩ := exec_settling_eq_runGenOp hi
  obtain ⟨t, ht, hout⟩ := runGenOp_outcome params hop hset.waveOnlyWhenFast
  exact ⟨t, hexec ▸ ht, hout.modeInv hmode, hout.countInv hcount, hout.settled hmode hset⟩

end Sys2Proof.Machine
end

section
/-! PROOFS about the button records (40_debouncer.md): one sample at the default thresholds (O6), a
hold and its release (O10, O11), the record invariant (O12, O13) and the clears (O8). -/

namespace Sys2Proof.Machine

open Sys2Proof.Expected

/-! ## One sample of one record -/

theorem latchAt_eq_true {old : Bool} {counter threshold : BitVec 8} :
    latchAt old counter threshold = true ↔ old = true ∨ counter = threshold := by
  simp [latchAt]

theorem pressRecord_params_below {r : ButtonState} (h : r.pressedCounter.toNat < 10) :
    (pressRecord params r).pressedCounter.toNat = r.pressedCounter.toNat + 1 ∧
    ((pressRecord params r).pressed = true ↔
      r.pressed = true ∨ r.pressedCounter.toNat + 1 = 1) ∧
    ((pressRecord params r).longPressed = true ↔
      r.longPressed = true ∨ r.pressedCounter.toNat + 1 = 10) ∧
    (pressRecord params r).clicked = r.clicked := by
  have hlt : r.pressedCounter < params.longPressThreshold := h
  have hcount : (r.pressedCounter + 1).toNat = r.pressedCounter.toNat + 1 := by bv_omega
  rw [pressRecord_below hlt]
  simp only [latchAt_eq_true, ← BitVec.toNat_inj, hcount]
  exact ⟨trivial, Iff.rfl, Iff.rfl, trivial⟩

theorem pressRecord_params_clamped {r : ButtonState} (h : 10 ≤ r.pressedCounter.toNat) :
    pressRecord params r = { r with lastPinState := .pressed } :=
  pressRecord_clamped (Nat.not_lt.2 h)

theorem releaseRecord_params (r : ButtonState) :
    (releaseRecord params r).pressedCounter = 0 ∧
    (releaseRecord params r).pressed = r.pressed ∧
    (releaseRecord params r).longPressed = r.longPressed ∧
    ((releaseRecord params r).clicked = true ↔ r.clicked = true ∨
      (1 ≤ r.pressedCounter.toNat ∧ r.pressedCounter.toNat < 10)) := by
  refine ⟨rfl, rfl, rfl, ?_⟩
  simp [releaseRecord, clickedAfterRelease, BitVec.le_def, BitVec.lt_def]

/-! ## Operations by identifier -/

theorem exec_btnUpdate_eq (b : Button) (smp : Sample) (s : State) :
    exec (.btnUpdate (idOf b) smp) s =
      .next (s.setButton b (updateRecord params smp (s.bs.get b))) :=
  congrArg _ (onButton_idOf b _ s)

/-- Settles O6: one sample of the button's record, by sample and by the clamp. -/
theorem btnUpdateResult : Obligations.BtnUpdateResult := by
  intro id b smp s hb
  obtain rfl := buttonOf_eq_some.1 hb
  refine ⟨_, exec_btnUpdate_eq b smp s, updateRecord_lastPinState params smp _, ?_, ?_, ?_⟩
  · rintro rfl hlt
    exact pressRecord_params_below hlt
  · rintro rfl hge
    exact pressRecord_params_clamped hge
  · rintro rfl
    exact releaseRecord_params _

/-- Settles O8: each clear acts on the button its identifier selects. -/
theorem latchClearResults : Obligations.LatchClearResults := by
  intro id b s hb
  obtain rfl := buttonOf_eq_some.1 hb
  exact ⟨congrArg _ (onButton_idOf b _ s), congrArg _ (onButton_idOf b _ s),
    congrArg _ (onButton_idOf b _ s)⟩

/-! ## A hold: the same record pressed again and again -/

theorem Buttons.set_get (bs : Buttons) (b : Button) : bs.set b (bs.get b) = bs := by
  cases b <;> rfl

theorem Buttons.set_set (bs : Buttons) (b : Button) (v w : ButtonState) :
    (bs.set b v).set b w = bs.set b w := by
  cases b <;> rfl

theorem State.setButton_get (s : State) (b : Button) : s.setButton b (s.bs.get b) = s := by
  rw [State.setButton, Buttons.set_get]

theorem State.setButton_setButton (s : State) (b : Button) (v w : ButtonState) :
    (s.setButton b v).setButton b w = s.setButton b w := by
  simp only [State.setButton, Buttons.set_set]

/-- A hold iterates the `Pressed` sample on the button's record and touches nothing else. -/
theorem feed_pressed (b : Button) (n : Nat) (s : State) :
    feed (idOf b) (List.replicate n .pressed) s =
      .next (s.setButton b ((pressRecord params)^[n] (s.bs.get b))) := by
  induction n generalizing s with
  | zero => rw [Function.iterate_zero_apply, State.setButton_get]; rfl
  | succ n ih =>
    rw [List.replicate_succ, feed, exec_btnUpdate_eq, andThen_next, ih, State.setButton_bs,
      Buttons.get_set_same, State.setButton_setButton, Function.iterate_succ_apply]
    rfl

/-- R107, on the record: what `n` samples of a hold make of a fresh one. -/
theorem iterate_pressRecord_of_fresh {r : ButtonState} (hcount : r.pressedCounter = 0)
    (hpressed : r.pressed = false) (hlong : r.longPressed = false) (hclicked : r.clicked = false)
    (n : Nat) :
    ((pressRecord params)^[n] r).pressedCounter.toNat = min n 10 ∧
    (((pressRecord params)^[n] r).pressed = true ↔ 1 ≤ n) ∧
    (((pressRecord params)^[n] r).longPressed = true ↔ 10 ≤ n) ∧
    ((pressRecord params)^[n] r).clicked = false := by
  induction n with
  | zero => simp [hcount, hpressed, hlong, hclicked]
  | succ n ih =>
    rw [Function.iterate_succ_apply']
    generalize (pressRecord params)^[n] r = q at ih
    obtain ⟨ihcount, ihpressed, ihlong, ihclicked⟩ := ih
    by_cases hn : n < 10
    · obtain ⟨hc, hp, hl, hk⟩ := pressRecord_params_below (r := q) (by omega)
      rw [hc, hp, hl, hk, ihcount, ihpressed, ihlong]
      refine ⟨by omega, by omega, by omega, ihclicked⟩
    · rw [pressRecord_params_clamped (by omega)]
      exact ⟨ihcount.trans (by omega), ihpressed.trans (by omega), ihlong.trans (by omega),
        ihclicked⟩

/-- Settles O10: the record after the hold, and one release of it. -/
theorem holdThenRelease : Obligations.HoldThenRelease := by
  intro id b s n hb hcount hpressed hlong hclicked
  obtain rfl := buttonOf_eq_some.1 hb
  obtain ⟨hc, hp, hl, hk⟩ := iterate_pressRecord_of_fresh hcount hpressed hlong hclicked n
  refine ⟨_, _, feed_pressed b n s, exec_btnUpdate_eq b .released _, ?_⟩
  simp only [State.setButton_bs, Buttons.get_set_same]
  obtain ⟨hzero, -, -, hclick⟩ := releaseRecord_params ((pressRecord params)^[n] (s.bs.get b))
  refine ⟨hc, hp, hl, hk, hzero, hclick.trans ?_⟩
  rw [hk, hc]
  simp only [Bool.false_eq_true, false_or]
  omega

/-- A record inside a hold whose press is not latched. -/
def HeldUnpressed (r : ButtonState) : Prop :=
  1 ≤ r.pressedCounter.toNat ∧ r.pressedCounter.toNat ≤ 10 ∧ r.pressed = false

/-- A record at the clamp whose long press is not latched. -/
def ClampedUnlatched (r : ButtonState) : Prop :=
  10 = r.pressedCounter.toNat ∧ r.longPressed = false

/-- No increment of a counter in 1..10 reaches 1. -/
theorem pressRecord_heldUnpressed {r : ButtonState} (h : HeldUnpressed r) :
    HeldUnpressed (pressRecord params r) := by
  obtain ⟨hlow, hhigh, hpressed⟩ := h
  by_cases hlt : r.pressedCounter.toNat < 10
  · obtain ⟨hc, hp, -, -⟩ := pressRecord_params_below hlt
    refine ⟨by omega, by omega, ?_⟩
    rw [← Bool.not_eq_true, hp, hpressed]
    simp only [Bool.false_eq_true, false_or]
    omega
  · rw [pressRecord_params_clamped (by omega)]
    exact ⟨hlow, hhigh, hpressed⟩

/-- At the clamp the counter is not incremented, so nothing is latched. -/
theorem pressRecord_clampedUnlatched {r : ButtonState} (h : ClampedUnlatched r) :
    ClampedUnlatched (pressRecord params r) := by
  obtain ⟨hclamp, hlong⟩ := h
  rw [pressRecord_params_clamped hclamp.le]
  exact ⟨hclamp, hlong⟩

/-- Settles O11: every sample of the hold keeps both conditions. -/
theorem noRelatchInsideHold : Obligations.NoRelatchInsideHold := by
  intro id b s n hb
  obtain rfl := buttonOf_eq_some.1 hb
  refine ⟨_, feed_pressed b n s, fun hlow hhigh hpressed => ?_, fun hclamp hlong => ?_⟩ <;>
    rw [State.setButton_bs, Buttons.get_set_same]
  · obtain ⟨-, -, h⟩ := Function.Iterate.rec HeldUnpressed ⟨hlow, hhigh, hpressed⟩
      (fun _ => pressRecord_heldUnpressed) n
    exact h
  · obtain ⟨-, h⟩ := Function.Iterate.rec ClampedUnlatched ⟨hclamp, hlong⟩
      (fun _ => pressRecord_clampedUnlatched) n
    exact h

/-! ## The record invariant (R22) -/

theorem one_le_pressThreshold {p : Params} (hp : paramsWellFormed p = true) :
    1 ≤ p.pressThreshold := by
  simp only [paramsWellFormed, Bool.and_eq_true, decide_eq_true_eq] at hp
  exact hp.1.1

/-- After a `Released` sample the counter is 0, so another finds nothing to count as a click. -/
theorem releaseRecord_of_released {p : Params} {r : ButtonState}
    (hp : paramsWellFormed p = true) (hinv : RecordInv p r) (hr : r.lastPinState = .released) :
    releaseRecord p r = r := by
  obtain ⟨-, hlast⟩ := hinv
  have hzero : r.pressedCounter = 0 := by
    by_contra hne
    have hpressed := hlast (by bv_omega)
    simp [hr] at hpressed
  have hclick : clickedAfterRelease p r.clicked r.pressedCounter = r.clicked := by
    have hthreshold := one_le_pressThreshold hp
    have hbelow : ¬ p.pressThreshold ≤ r.pressedCounter := by bv_omega
    simp [clickedAfterRelease, hbelow]
  rw [releaseRecord, hclick, ← hzero, ← hr]

/-- Settles O12: the two readings differ on a `Released` sample after a `Released` one alone, which
changes nothing. -/
theorem releaseOnTransitionOnly : Obligations.ReleaseOnTransitionOnly := by
  intro p smp r hp hinv
  split
  case isTrue h =>
    obtain ⟨rfl, hr⟩ := h
    exact releaseRecord_of_released hp hinv hr
  case isFalse => rfl

theorem updateRecord_recordInv {p : Params} {r : ButtonState} (smp : Sample)
    (hinv : RecordInv p r) : RecordInv p (updateRecord p smp r) := by
  cases smp with
  | released => exact ⟨Nat.zero_le _, fun h => absurd h (Nat.not_lt_zero _)⟩
  | pressed =>
    refine ⟨?_, fun _ => updateRecord_lastPinState p .pressed r⟩
    by_cases hlt : r.pressedCounter < p.longPressThreshold
    · simp only [updateRecord, pressRecord_below hlt]
      bv_omega
    · simp only [updateRecord, pressRecord_clamped hlt]
      exact hinv.1

/-- Settles O13: a release empties the counter, a press counts up to the clamp. -/
theorem updateKeepsRecordInv : Obligations.UpdateKeepsRecordInv :=
  fun _ smp _ _ hinv => updateRecord_recordInv smp hinv

end Sys2Proof.Machine
end

section
/-! PROOFS of the block's invariant: generator operations and the dispatcher complete and keep it
for any parameters (O52), it holds after reset (O50), and every step (O49) and so every run (O58)
keeps it. -/

namespace Sys2Proof.Machine

open Sys2Proof.Expected

/-! ## Parts of the invariant and writes -/

section
variable {p : Params} {s t : State}

theorem buttonsInv_iff : ButtonsInv p s ↔ ∀ b, RecordInv p (s.bs.get b) :=
  ⟨fun ⟨hup, hdown, hmode⟩ b => by cases b; exacts [hup, hdown, hmode],
    fun h => ⟨h .up, h .down, h .mode⟩⟩

/-- Changes the appended events explain keep the trace's account of the hardware. -/
theorem TraceExplained.traceInv (h : TraceExplained s t) (hs : TraceInv s) : TraceInv t := by
  obtain ⟨es, htrace, hoff, hhal, hout, hind⟩ := h
  obtain ⟨hhal₀, hout₀, hind₀, hoff₀⟩ := hs
  refine ⟨?_, ?_, ?_, ?_⟩
  · rw [hhal, hhal₀, htrace, List.foldl_append]
  · rw [hout, hout₀, htrace, List.foldl_append]
  · rw [hind, hind₀, htrace, List.foldl_append]
  · simp [htrace, hoff, hoff₀]

/-- The invariant speaks of neither flags, phase, pins nor the model's own fields. -/
theorem BlockInv.of_unread (h : BlockInv p s)
    (ht : t = { s with
      f := t.f, phase := t.phase, pins := t.pins, events := t.events, booted := t.booted }) :
    BlockInv p t := by
  rw [ht]
  exact ⟨h.buttons, h.mode, h.count, h.hal, h.out, h.ind, h.trace⟩

theorem BlockInv.setButton (h : BlockInv p s) (b : Button) {v : ButtonState}
    (hv : RecordInv p v) : BlockInv p (s.setButton b v) := by
  refine ⟨buttonsInv_iff.2 fun c => ?_, h.mode, h.count, h.hal, h.out, h.ind, h.trace⟩
  by_cases hc : c = b
  · subst hc; rwa [State.setButton_bs, Buttons.get_set_same]
  · rw [State.setButton_bs, Buttons.get_set_other _ _ _ _ hc]
    exact buttonsInv_iff.1 h.buttons c

theorem BlockInv.updateButton (h : BlockInv p s) (b : Button) (smp : Sample) :
    BlockInv p (updateButton p b smp s) :=
  h.setButton b (updateRecord_recordInv smp (buttonsInv_iff.1 h.buttons b))

theorem BlockInv.clearPressed (h : BlockInv p s) (b : Button) : BlockInv p (clearPressed b s) :=
  h.setButton b (buttonsInv_iff.1 h.buttons b)

theorem BlockInv.clearClicked (h : BlockInv p s) (b : Button) : BlockInv p (clearClicked b s) :=
  h.setButton b (buttonsInv_iff.1 h.buttons b)

theorem BlockInv.clearLongPressed (h : BlockInv p s) (b : Button) :
    BlockInv p (clearLongPressed b s) :=
  h.setButton b (buttonsInv_iff.1 h.buttons b)

/-! ## Generator operations -/

/-- What an outcome of a generator operation and its frame keep together. -/
theorem BlockInv.of_outcome (h : BlockInv p s) (hout : GenOutcome p s t) (hframe : GenFrame s t) :
    BlockInv p t where
  buttons := by simpa only [ButtonsInv, hframe.bs] using h.buttons
  mode := hout.modeInv h.mode
  count := hout.countInv h.count
  hal := hout.halInv h.hal
  out := hout.outInv h.mode h.hal h.out
  ind := hout.indInv h.ind
  trace := hframe.traceExplained.traceInv h.trace

/-- A fast stop leaves the registers and stops the hardware (the halt window of R228). -/
theorem BlockInv.stoppedFast (h : BlockInv p s) (hframe : GenFrame s (stoppedFast s)) :
    BlockInv p (stoppedFast s) where
  buttons := h.buttons
  mode := h.mode
  count := h.count
  hal := halInv_of_stopped rfl rfl
  out := by simp [OutInv, Expected.stoppedFast, stoppedHal]
  ind := h.ind
  trace := hframe.traceExplained.traceInv h.trace

end

/-! ## Operations that complete and keep the invariant -/

/-- From every state with the invariant the operation completes in one. -/
def KeepsInv (p : Params) (k : State → Result) : Prop :=
  ∀ s, BlockInv p s → ∃ t, k s = .next t ∧ BlockInv p t

section
variable {p : Params} {k l : State → Result}

theorem KeepsInv.andThen (hk : KeepsInv p k) (hl : KeepsInv p l) :
    KeepsInv p fun s => andThen (k s) l := by
  intro s hs
  obtain ⟨t, ht, hinv⟩ := hk s hs
  simp only [ht, andThen_next]
  exact hl t hinv

theorem keepsInv_next {f : State → State} (h : ∀ s, BlockInv p s → BlockInv p (f s)) :
    KeepsInv p fun s => .next (f s) := fun s hs => ⟨f s, rfl, h s hs⟩

/-- What such an operation answers has the invariant. -/
theorem KeepsInv.blockInv (hk : KeepsInv p k) {s t : State} (hs : BlockInv p s)
    (h : k s = .next t) : BlockInv p t := by
  obtain ⟨u, hu, hinv⟩ := hk s hs
  cases hu.symm.trans h
  exact hinv

end

theorem genStopFast_keepsInv (p : Params) : KeepsInv p genStopFast := by
  intro s hs
  have hstop := genStopFast_eq_stoppedFast s
  exact ⟨_, hstop, hs.stoppedFast (genStopFast_frame hstop)⟩

theorem runGenOp_keepsInv (p : Params) (op : GenOp) : KeepsInv p (runGenOp p op) := by
  by_cases hop : op = .stopFast
  · subst hop; exact genStopFast_keepsInv p
  · intro s hs
    obtain ⟨t, ht, hout⟩ := runGenOp_outcome p hop hs.hal.waveOnlyWhenFast
    exact ⟨t, ht, hs.of_outcome hout (runGenOp_frame ht)⟩

/-! ## The dispatcher -/

theorem serveButton_keepsInv (p : Params) (b : Button) : KeepsInv p (serveButton p b) := by
  intro s hs
  unfold serveButton
  split
  · obtain ⟨t, ht, hinv⟩ := runGenOp_keepsInv p (actionOp p.buttonTable b s.g.mode) s hs
    exact ⟨_, by rw [action, ht, andThen_next], hinv.clearPressed b⟩
  · exact ⟨s, rfl, hs⟩

theorem serveButtons_keepsInv (p : Params) : KeepsInv p (serveButtons p) :=
  (serveButton_keepsInv p .up).andThen
    ((serveButton_keepsInv p .down).andThen (serveButton_keepsInv p .mode))

theorem BlockInv.sampleButtons {p : Params} {s : State} (h : BlockInv p s) :
    BlockInv p (sampleButtons p s) :=
  ((h.updateButton .up _).updateButton .down _).updateButton .mode _

theorem step1_keepsInv (p : Params) : KeepsInv p (step1 p) := by
  intro s hs
  cases hovf : s.f.timer1Overflow with
  | false => exact ⟨s, step1_of_no_overflow hovf, hs⟩
  | true =>
    cases hhalt : s.f.stopGenerator with
    | true => exact ⟨_, step1_of_overflow_halt hovf hhalt, hs.of_unread rfl⟩
    | false =>
      rw [step1_of_overflow_no_halt hovf hhalt]
      exact (runGenOp_keepsInv p .ovf).andThen (keepsInv_next fun _ h => h.of_unread rfl) s hs

theorem step2_keepsInv (p : Params) : KeepsInv p step2 := by
  intro s hs
  cases hhalt : s.f.stopGenerator with
  | false => exact ⟨s, step2_of_no_halt hhalt, hs⟩
  | true =>
    rw [step2_of_halt hhalt]
    exact runGenOp_keepsInv p .stop _ (hs.of_unread rfl)

theorem step3_of_no_tick {p : Params} {s : State} (hread : s.f.readButtons = false) :
    step3 p s = .next s := by
  simp [step3, hread]

theorem step3_of_tick {p : Params} {s : State} (hread : s.f.readButtons = true) :
    step3 p s = serveButtons p (sampleButtons p (s.setReadButtons false)) := by
  simp [step3, hread]

theorem step3_keepsInv (p : Params) : KeepsInv p (step3 p) := by
  intro s hs
  cases hread : s.f.readButtons with
  | false => exact ⟨s, step3_of_no_tick hread, hs⟩
  | true =>
    have hcleared : BlockInv p (s.setReadButtons false) := hs.of_unread rfl
    rw [step3_of_tick hread]
    exact serveButtons_keepsInv p _ hcleared.sampleButtons

theorem dspStep_of_phase_three {p : Params} {s : State} (hphase : s.phase = .three) :
    dspStep p s = andThen (step3 p s) fun t => .next (t.setPhase .one) := by
  rw [dspStep, hphase]

theorem dspStep_keepsInv (p : Params) : KeepsInv p (dspStep p) := by
  have advance (q : Phase) : KeepsInv p fun t => .next (t.setPhase q) :=
    keepsInv_next fun _ h => h.of_unread rfl
  intro s hs
  cases hphase : s.phase with
  | one => rw [dspStep_of_phase_one hphase]; exact (step1_keepsInv p).andThen (advance _) s hs
  | two => rw [dspStep_of_phase_two hphase]; exact (step2_keepsInv p).andThen (advance _) s hs
  | three => rw [dspStep_of_phase_three hphase]; exact (step3_keepsInv p).andThen (advance _) s hs

/-- Settles O52: each operation leaves one of the generator's outcomes or the fast stop's, the
dispatcher composes them with samples, and neither needs more of the parameters than the invariant
gives. -/
theorem anyParametersKeepInvariant : Obligations.AnyParametersKeepInvariant :=
  fun p s _ hs => ⟨dspStep_keepsInv p s hs, fun op => runGenOp_keepsInv p op s hs⟩

/-! ## Every word -/

section
variable {s t : State}

theorem onButton_blockInv {p : Params} {op : Button → State → State} (id : ButtonId)
    (hs : BlockInv p s) (hop : ∀ b, BlockInv p (op b s)) : BlockInv p (onButton id op s) := by
  obtain ⟨b, rfl⟩ | rfl := buttonId_cases id
  · rw [onButton_idOf]; exact hop b
  · rwa [onButton_unrecognised]

theorem exec_buttonWord_blockInv {i : Instr} (hi : isButtonWord i = true)
    (hs : BlockInv params s) (h : exec i s = .next t) : BlockInv params t := by
  cases i with
  | btnUpdate id smp => cases h; exact onButton_blockInv id hs fun b => hs.updateButton b smp
  | btnClrP id => cases h; exact onButton_blockInv id hs fun b => hs.clearPressed b
  | btnClrC id => cases h; exact onButton_blockInv id hs fun b => hs.clearClicked b
  | btnClrL id => cases h; exact onButton_blockInv id hs fun b => hs.clearLongPressed b
  | _ => cases hi

theorem exec_outside_loop_blockInv {i : Instr} (hi : agentOf i ≠ .loop) (hs : BlockInv params s)
    (h : exec i s = .next t) : BlockInv params t := by
  obtain ⟨-, rfl⟩ | ⟨-, rfl⟩ | ⟨-, rfl⟩ | ⟨pins, -, rfl⟩ := exec_outside_loop_cases hi h
  · exact hs.of_unread rfl
  · exact hs.of_unread rfl
  · have hstop := (genStopFast_keepsInv params).blockInv hs (genStopFast_eq s)
    exact hstop.of_unread rfl
  · exact hs.of_unread rfl

theorem exec_blockInv {i : Instr} (hs : BlockInv params s) (h : exec i s = .next t) :
    BlockInv params t := by
  by_cases hi : agentOf i = .loop
  · obtain hbutton | hgen | rfl := loopWord_cases hi
    · exact exec_buttonWord_blockInv hbutton hs h
    · obtain ⟨op, hop⟩ := exec_genWord_eq_runGenOp hgen
      exact (runGenOp_keepsInv params op).blockInv hs (hop ▸ h)
    · exact (dspStep_keepsInv params).blockInv hs h
  · exact exec_outside_loop_blockInv hi hs h

end

/-! ## Steps and runs -/

/-- Settles O50: every clause is read off the reset values. -/
theorem resetHasInvariant : Obligations.ResetHasInvariant where
  buttons := by decide
  mode := modeInv_of_manual rfl (.inl rfl)
  count := by decide
  hal := halInv_of_stopped rfl rfl
  out := by decide
  ind := by decide
  trace := ⟨rfl, rfl, rfl, List.not_mem_nil⟩

/-- Settles O49: a step is the reset, or a word between writes of the model's own fields. -/
theorem stepKeepsInvariant : Obligations.StepKeepsInvariant := by
  intro s t hs h
  obtain ⟨rest, -, rfl⟩ | ⟨i, u, v, hu, hv, rfl⟩ := step_cases h
  · exact resetHasInvariant.of_unread rfl
  · have hinv : BlockInv params u := by
      obtain ⟨rfl, -, -⟩ | ⟨w, rest, -, rfl, -⟩ := hu
      · exact hs
      · exact hs.of_unread rfl
    rw [afterInstr_eq]
    exact (exec_blockInv hinv hv).of_unread rfl

theorem takeEvents_blockInv {es : List Event} {s t : State} (hs : BlockInv params s)
    (h : takeEvents es s = .next t) : BlockInv params t := by
  induction es generalizing s with
  | nil => cases h; exact hs
  | cons e es ih =>
    obtain ⟨u, hu, ht⟩ := andThen_eq_next.1 h
    have hpresented : BlockInv params (s.setEvents (e :: s.events)) := hs.of_unread rfl
    exact ih (stepKeepsInvariant _ _ hpresented hu) ht

/-- Settles O58: the first events of a sequence are finitely many steps, each of which keeps the
invariant. -/
theorem runKeepsInvariant : Obligations.RunKeepsInvariant :=
  fun _ _ _ _ hs h => takeEvents_blockInv hs h

end Sys2Proof.Machine
end

section
/-! PROOFS of what the generator's operations do to mode, state, index and sub-count: four overflows
at index 0 (O27), the transition table (O31) and the writers of the index (O46). -/

namespace Sys2Proof.Machine

open Sys2Proof.Expected

/-! ## Four overflows at index 0 -/

/-- Auto mode at index 0 with the waveform generator off. -/
def AtLowest (s : State) : Prop :=
  s.g.mode = .auto ∧ s.g.freqIndex = 0 ∧ s.hal.gen ≠ .fast

section
variable {s : State}

/-- A toggle and a write of the sub-count stay there. -/
theorem AtLowest.toggled (h : AtLowest s) (c : BitVec 8) : AtLowest (toggled s c) := by
  simpa only [AtLowest, toggled_g, toggled_hal] using h

theorem toggled_setOvfCount (s : State) (c d : BitVec 8) :
    (toggled s c).setOvfCount d = toggled s d := by
  unfold toggled
  split <;> rfl

theorem genOvf_counts (h : AtLowest s) {c : BitVec 8} (hc : c.toNat < 3) :
    exec .genOvf (s.setOvfCount c) = .next (s.setOvfCount (c + 1)) := by
  obtain ⟨hm, h0, hg⟩ := h
  exact (ovfCountsAtLowest (s.setOvfCount c) hm h0 hg).1 hc

theorem genOvf_toggles (h : AtLowest s) :
    exec .genOvf (s.setOvfCount 3) = .next ((toggled s 0).setOvfCount 0) := by
  obtain ⟨hm, h0, hg⟩ := h
  rw [toggled_setOvfCount]
  exact (ovfCountsAtLowest (s.setOvfCount 3) hm h0 hg).2 rfl

/-- Four overflows from any sub-count pass the toggle at 3 once and count back to where they
began. -/
theorem four_genOvf (h : AtLowest s) {c : BitVec 8} (hc : c < 4) :
    andThen (exec .genOvf (s.setOvfCount c)) (fun t => andThen (exec .genOvf t) fun u =>
      andThen (exec .genOvf u) (exec .genOvf)) = .next (toggled s c) := by
  have h' := h.toggled 0
  have from0 {u : State} (hu : AtLowest u) :
      exec .genOvf (u.setOvfCount 0) = .next (u.setOvfCount 1) := genOvf_counts hu (by decide)
  have from1 {u : State} (hu : AtLowest u) :
      exec .genOvf (u.setOvfCount 1) = .next (u.setOvfCount 2) := genOvf_counts hu (by decide)
  have from2 {u : State} (hu : AtLowest u) :
      exec .genOvf (u.setOvfCount 2) = .next (u.setOvfCount 3) := genOvf_counts hu (by decide)
  have hcases : c = 0 ∨ c = 1 ∨ c = 2 ∨ c = 3 := by bv_omega
  rw [← toggled_setOvfCount s 0 c]
  obtain rfl | rfl | rfl | rfl := hcases <;>
    simp only [from0, from1, from2, genOvf_toggles, h, h', andThen_next]

end

/-- Settles O27: the state's own sub-count is one of the four. -/
theorem fourOverflowsOneToggle : Obligations.FourOverflowsOneToggle :=
  fun _ hm h0 hg hc => four_genOvf ⟨hm, h0, hg⟩ hc

/-! ## The transition table -/

section
variable {s t : State}

theorem mode_state_autoEntered (s : State) (i : FreqIndex) :
    (autoEntered s i).g.mode = .auto ∧
    (autoEntered s i).g.state =
      if (autoEntered s i).g.freqIndex ≤ 4 then .slowAutoHigh else .fastAuto := by
  simp only [autoEntered_g, and_self]

/-- A manual level that is reached is the expected one, whatever became of the hardware. -/
theorem genSetManual_cases {lvl : Level} (h : genSetManual lvl s = .next t) :
    ∃ hal es, t = manualAt s lvl hal es := by
  cases hm : s.g.mode with
  | auto => rw [genSetManual_auto lvl hm] at h; cases h; exact ⟨_, _, rfl⟩
  | manual =>
    rw [genSetManual_manual lvl hm] at h
    by_cases hg : s.hal.gen = .fast
    · rw [settleManual_fast lvl hg] at h; cases h
    · rw [settleManual_eq lvl hm hg] at h; cases h; exact ⟨_, _, rfl⟩

theorem genSetManual_mode_state {lvl : Level} (h : genSetManual lvl s = .next t) :
    t.g.mode = .manual ∧ t.g.state = manualState lvl := by
  obtain ⟨hal, es, rfl⟩ := genSetManual_cases h
  exact ⟨rfl, by cases lvl <;> rfl⟩

theorem genSetAuto_mode_state (h : genSetAuto s = .next t) :
    t.g.mode = .auto ∧
    t.g.state = if s.g.mode = .auto then s.g.state
      else if t.g.freqIndex ≤ 4 then .slowAutoHigh else .fastAuto := by
  cases hm : s.g.mode with
  | auto =>
    rw [genSetAuto_auto hm] at h
    cases h
    exact ⟨hm, rfl⟩
  | manual =>
    rw [genSetAuto_manual hm] at h
    cases h
    exact mode_state_autoEntered s _

theorem genToggleMode_mode_state (h : genToggleMode s = .next t) :
    if s.g.mode = .auto then t.g.mode = .manual ∧ t.g.state = .manualLow
    else t.g.mode = .auto ∧
      t.g.state = if t.g.freqIndex ≤ 4 then .slowAutoHigh else .fastAuto := by
  cases hm : s.g.mode with
  | auto =>
    rw [genToggleMode_auto hm] at h
    exact genSetManual_mode_state h
  | manual =>
    rw [genToggleMode_manual hm] at h
    simpa [hm] using genSetAuto_mode_state h

/-- A level below a slow one is not the last slow one. -/
theorem ne_four_of_succ_slow {i j : Fin 12} (h : j.val = i.val + 1) (hj : j ≤ 4) : i ≠ 4 := by
  omega

/-- A level below a fast one is the last slow one or fast itself. -/
theorem fast_of_succ_fast {i j : Fin 12} (h : j.val = i.val + 1) (hj : 5 ≤ j) (hi : i ≠ 4) :
    5 ≤ i := by
  omega

/-- The level below the first fast one is the last slow one. -/
theorem eq_five_iff {i j : Fin 12} (h : j.val + 1 = i.val) (hj : ¬ j < 4) : i = 5 ↔ j ≤ 4 := by
  omega

theorem ne_five_of_pred_lt {i j : Fin 12} (h : j.val + 1 = i.val) (hj : j < 4) : i ≠ 5 := by
  omega

theorem genFreqUp_mode_state (hinv : ModeInv s) (h : exec .genFreqUp s = .next t) :
    t.g.mode = s.g.mode ∧
    t.g.state = if s.g.mode = .auto ∧ s.g.freqIndex = 4 then .fastAuto else s.g.state := by
  cases hm : s.g.mode with
  | manual =>
    cases (stepIndex_manual hm).symm.trans h
    simp [hm]
  | auto =>
    cases hn : indexUp s.g.freqIndex with
    | none =>
      have h4 : s.g.freqIndex ≠ 4 := fun h4 => by simp [h4, indexUp] at hn
      cases (stepIndex_none hn).symm.trans h
      simp [hm, h4]
    | some j =>
      have hj := indexUp_eq_some_iff.1 hn
      have ht := (genFreqUpResult s j hinv hm hj).symm.trans h
      rcases slow_or_fast j with hi | hi
      · rw [if_pos hi] at ht
        cases ht
        simp [slowReprogrammed, hm, ne_four_of_succ_slow hj hi]
      · rw [if_neg (not_slow_of_fast hi)] at ht
        cases ht
        simp only [autoEntered_g, if_neg (not_slow_of_fast hi), true_and]
        split
        case isTrue => rfl
        case isFalse h4 => exact ((hinv.fastAuto_iff hm).2 (fast_of_succ_fast hj hi h4)).symm

theorem genFreqDown_mode_state (hinv : ModeInv s) (h : exec .genFreqDown s = .next t) :
    t.g.mode = s.g.mode ∧
    t.g.state = if s.g.mode = .auto ∧ s.g.freqIndex = 5 then .slowAutoHigh else s.g.state := by
  cases hm : s.g.mode with
  | manual =>
    cases (stepIndex_manual hm).symm.trans h
    simp [hm]
  | auto =>
    cases hn : indexDown s.g.freqIndex with
    | none =>
      have h5 : s.g.freqIndex ≠ 5 := fun h5 => by rw [h5] at hn; cases hn
      cases (stepIndex_none hn).symm.trans h
      simp [hm, h5]
    | some j =>
      have hj := indexDown_eq_some_iff.1 hn
      have ht := (genFreqDownResult s j hinv hm hj).symm.trans h
      by_cases hi : j < 4
      · rw [if_pos hi] at ht
        cases ht
        simp [slowReprogrammed, hm, ne_five_of_pred_lt hj hi]
      · rw [if_neg hi] at ht
        cases ht
        simp only [autoEntered_g, true_and, eq_five_iff hj hi]
        split
        case isTrue => rfl
        case isFalse => exact ((hinv.fastAuto_iff hm).2 ((succ_fast_iff hj).2 hi)).symm

theorem slowToggle_inv (h : slowToggle s = .next t) : t = toggled s s.g.ovfCount := by
  by_cases hg : s.hal.gen = .fast
  · rw [slowToggle_fast hg] at h; cases h
  · rw [slowToggle_eq hg] at h; cases h; rfl

/-- An overflow that completes changes nothing, or counts at index 0, or toggles at a slow index. -/
theorem genOvf_cases {p : Params} (h : genOvf p s = .next t) :
    ((s.g.mode = .manual ∨ 5 ≤ s.g.freqIndex) ∧ t = s) ∨
    (s.g.freqIndex = 0 ∧ s.g.ovfCount + 1 < p.divCount ∧
      t = s.setOvfCount (s.g.ovfCount + 1)) ∨
    (s.g.mode = .auto ∧ s.g.freqIndex ≤ 4 ∧
      (s.g.freqIndex = 0 → p.divCount ≤ s.g.ovfCount + 1) ∧ ∃ c, t = toggled s c) := by
  by_cases hout : s.g.mode = .manual ∨ 5 ≤ s.g.freqIndex
  · rw [genOvf_outside hout] at h
    cases h
    exact .inl ⟨hout, rfl⟩
  · obtain ⟨hmanual, hfast⟩ := not_or.1 hout
    have hi := (slow_or_fast s.g.freqIndex).resolve_right hfast
    have hm : s.g.mode = .auto := by
      cases hm : s.g.mode with
      | manual => exact absurd hm hmanual
      | auto => rfl
    by_cases h0 : s.g.freqIndex = 0
    · rw [genOvf_divided hm h0] at h
      by_cases hc : s.g.ovfCount + 1 < p.divCount
      · rw [countOverflow_below hc] at h
        cases h
        exact .inr (.inl ⟨h0, hc, rfl⟩)
      · have hge := BitVec.not_lt.1 hc
        rw [countOverflow_reached hge] at h
        exact .inr (.inr ⟨hm, hi, fun _ => hge, 0, slowToggle_inv h⟩)
    · rw [genOvf_undivided hm h0 hi] at h
      exact .inr (.inr ⟨hm, hi, fun h => absurd h h0, _, slowToggle_inv h⟩)

/-- Outside the slow regime the state is none of its two. -/
theorem ModeInv.not_slowAuto (hinv : ModeInv s) (h : s.g.mode = .manual ∨ 5 ≤ s.g.freqIndex) :
    s.g.state ≠ .slowAutoHigh ∧ s.g.state ≠ .slowAutoLow := by
  cases hm : s.g.mode with
  | manual => rcases hinv.1.1 hm with hs | hs <;> simp [hs]
  | auto =>
    have hs := (hinv.fastAuto_iff hm).2 (h.resolve_left (by simp [hm]))
    simp [hs]

theorem genOvf_mode_state (hinv : ModeInv s) (hc : s.g.ovfCount < 4)
    (h : genOvf params s = .next t) :
    t.g.mode = s.g.mode ∧
    t.g.state =
      if s.g.freqIndex = 0 ∧ s.g.ovfCount ≠ 3 then s.g.state
      else if s.g.state = .slowAutoHigh then .slowAutoLow
      else if s.g.state = .slowAutoLow then .slowAutoHigh else s.g.state := by
  obtain ⟨hout, rfl⟩ | ⟨h0, hlt, rfl⟩ | ⟨hm, hi, hge, c, rfl⟩ := genOvf_cases h
  · obtain ⟨hhigh, hlow⟩ := hinv.not_slowAuto hout
    simp [hhigh, hlow]
  · rw [params_divCount] at hlt
    have h3 : s.g.ovfCount ≠ 3 := by bv_omega
    exact ⟨rfl, by rw [if_pos ⟨h0, h3⟩]; rfl⟩
  · have hcond : ¬ (s.g.freqIndex = 0 ∧ s.g.ovfCount ≠ 3) := fun ⟨h0, h3⟩ => by
      have hge := hge h0
      rw [params_divCount] at hge
      bv_omega
    rw [if_neg hcond, toggled_g]
    obtain ⟨-, hslow, -⟩ := hinv
    rcases hslow hm hi with hs | hs <;> simp [hs]

end

/-- Settles O31: one lemma per operation of the table. -/
theorem transitionTable : Obligations.TransitionTable := by
  intro s t hinv hc
  refine ⟨fun h => ?_, genToggleMode_mode_state, genSetAuto_mode_state, genSetManual_mode_state,
    genSetManual_mode_state, genFreqUp_mode_state hinv, genFreqDown_mode_state hinv,
    genOvf_mode_state hinv hc, fun h => ?_, fun h => ?_⟩
  · cases (genInitResult s).symm.trans h; exact mode_state_autoEntered s 1
  · cases (genStopResult s).symm.trans h; exact ⟨rfl, rfl⟩
  · cases (genStopFast_eq_stoppedFast s).symm.trans h; rfl

/-! ## The writers of the index -/

section
variable {s t : State}

theorem genSetAuto_freqIndex (h : genSetAuto s = .next t) : t.g.freqIndex = s.g.freqIndex := by
  cases hm : s.g.mode with
  | auto => rw [genSetAuto_auto hm] at h; cases h; rfl
  | manual => rw [genSetAuto_manual hm] at h; cases h; rw [autoEntered_g]

theorem genSetManual_freqIndex {lvl : Level} (h : genSetManual lvl s = .next t) :
    t.g.freqIndex = s.g.freqIndex := by
  obtain ⟨hal, es, rfl⟩ := genSetManual_cases h
  rfl

theorem genToggleMode_freqIndex (h : genToggleMode s = .next t) :
    t.g.freqIndex = s.g.freqIndex := by
  cases hm : s.g.mode with
  | auto => rw [genToggleMode_auto hm] at h; exact genSetManual_freqIndex h
  | manual => rw [genToggleMode_manual hm] at h; exact genSetAuto_freqIndex h

theorem genOvf_freqIndex {p : Params} (h : genOvf p s = .next t) :
    t.g.freqIndex = s.g.freqIndex := by
  obtain ⟨-, rfl⟩ | ⟨-, -, rfl⟩ | ⟨-, -, -, c, rfl⟩ := genOvf_cases h
  · rfl
  · rfl
  · rw [toggled_g]

theorem changeIndex_freqIndex {i : FreqIndex} (hm : s.g.mode = .auto)
    (h : changeIndex i s = .next t) : t.g.freqIndex = i := by
  rcases slow_or_fast i with hi | hi
  · by_cases hs : s.g.state = .fastAuto
    · rw [changeIndex_slow_of_fastAuto hm hi hs] at h; cases h; rw [autoEntered_g]
    · rw [changeIndex_slow hm hi hs] at h; cases h; rfl
  · rw [changeIndex_fast hm hi] at h; cases h; rw [autoEntered_g]

/-- A frequency operation keeps the index or moves it to the neighbour. -/
theorem stepIndex_freqIndex {n : FreqIndex → Option FreqIndex} (h : stepIndex n s = .next t) :
    t.g.freqIndex = s.g.freqIndex ∨ n s.g.freqIndex = some t.g.freqIndex := by
  cases hm : s.g.mode with
  | manual => rw [stepIndex_manual hm] at h; cases h; exact .inl rfl
  | auto =>
    cases hn : n s.g.freqIndex with
    | none => rw [stepIndex_none hn] at h; cases h; exact .inl rfl
    | some i =>
      rw [stepIndex_some hm hn] at h
      exact .inr (congrArg _ (changeIndex_freqIndex hm h).symm)

/-- Every word but the four of R27 keeps the index. -/
theorem exec_freqIndex {i : Instr} (hinit : i ≠ .genInit) (hup : i ≠ .genFreqUp)
    (hdown : i ≠ .genFreqDown) (hdsp : i ≠ .dspStep) (h : exec i s = .next t) :
    t.g.freqIndex = s.g.freqIndex := by
  by_cases hi : agentOf i = .loop
  · obtain hbutton | hgen | rfl := loopWord_cases hi
    · rw [exec_buttonWord_changes_bs_only hbutton h]
    · cases i with
      | genInit => exact absurd rfl hinit
      | genFreqUp => exact absurd rfl hup
      | genFreqDown => exact absurd rfl hdown
      | genToggleMode => exact genToggleMode_freqIndex h
      | genSetAuto => exact genSetAuto_freqIndex h
      | genSetManual lvl => exact genSetManual_freqIndex h
      | genOvf => exact genOvf_freqIndex h
      | genStop => cases (genStop_eq s).symm.trans h; rfl
      | genStopFast => cases (genStopFast_eq_stoppedFast s).symm.trans h; rfl
      | _ => cases hgen
    · exact absurd rfl hdsp
  · obtain ⟨-, rfl⟩ | ⟨-, rfl⟩ | ⟨-, rfl⟩ | ⟨_, -, rfl⟩ := exec_outside_loop_cases hi h <;> rfl

end

/-- Settles O46: a frequency operation moves the index to its neighbour, the others do not write
it. -/
theorem freqIndexWriters : Obligations.FreqIndexWriters := by
  intro i s t h
  refine ⟨fun hinit hup hdown hdsp => exec_freqIndex hinit hup hdown hdsp h, ?_, ?_⟩
  · rintro rfl
    rcases stepIndex_freqIndex h with heq | hn
    · simp [heq]
    · have hj := indexUp_eq_some_iff.1 hn
      exact ⟨by rw [Fin.le_def]; omega, hj.le⟩
  · rintro rfl
    rcases stepIndex_freqIndex h with heq | hn
    · simp [heq]
    · have hj := indexDown_eq_some_iff.1 hn
      exact ⟨by rw [Fin.le_def]; omega, hj.ge⟩

end Sys2Proof.Machine
end

section
/-! PROOFS about the interrupts (60_exceptions.md: O39 to O41, O43) and the dispatcher
(43_dispatcher.md): phase 3 in words (O35), completion (O36), the loop iteration (O37) and a halt
before step 2 (O42). -/

namespace Sys2Proof.Machine

open Sys2Proof.Expected

/-! ## Interrupt and environment words -/

theorem exec_irqOvf_enabled {s : State} (h : s.hal.ovfIrqEn = true) :
    exec .irqOvf s = .next (s.setTimer1Overflow true) := if_pos h

theorem exec_irqOvf_disabled {s : State} (h : s.hal.ovfIrqEn = false) :
    exec .irqOvf s = .refused .ovfIrqDisabled := if_neg (by simp [h])

/-- Settles O39: the two cases of the enable. -/
theorem irqOvfResult : Obligations.IrqOvfResult := fun _ =>
  ⟨exec_irqOvf_enabled, exec_irqOvf_disabled⟩

/-- Settles O40: the fast stop completes from every state, and the flag is written after it. -/
theorem irqHaltResult : Obligations.IrqHaltResult := by
  intro s
  rw [exec_irqHalt_eq, emitted_stop_writePin_low]
  rfl

/-- Settles O41: the word is one write of the register. -/
theorem pinSetResult : Obligations.PinSetResult := fun _ _ => rfl

/-- Settles O43: the flag written twice is the flag written once, and an overflow does not touch its
enable; a second halt repeats the two events on hardware that is stopped already. -/
theorem pendingEventsMerge : Obligations.PendingEventsMerge := by
  intro s
  refine ⟨rfl, ?_, _, _, irqHaltResult s, irqHaltResult _, rfl⟩
  cases hirq : s.hal.ovfIrqEn with
  | false => rw [exec_irqOvf_disabled hirq, andThen_refused]
  | true =>
    rw [exec_irqOvf_enabled hirq, andThen_next, exec_irqOvf_enabled (by exact hirq)]
    rfl

/-! ## Phase 3 as the words it stands for -/

theorem exec_actionInstr (b : Button) (m : GenMode) :
    exec (actionInstr b m) = runGenOp params (actionOp params.buttonTable b m) := by
  cases b <;> cases m <;> rfl

theorem exec_btnClrP_eq (b : Button) :
    exec (.btnClrP (idOf b)) = fun s => .next (clearPressed b s) :=
  funext fun s => congrArg _ (onButton_idOf b _ s)

theorem served_eq_serveButton (b : Button) (s : State) : served b s = serveButton params b s := by
  unfold served serveButton action
  rw [exec_actionInstr, exec_btnClrP_eq]

/-- Settles O35: three samples, then three turns of the loop, each a word or two. -/
theorem dspStepThree : Obligations.DspStepThree := by
  intro s hphase
  have hexec : exec .dspStep s = andThen (step3 params s) fun t => .next (t.setPhase .one) :=
    dspStep_of_phase_three hphase
  refine ⟨fun hread => ?_, fun hread => ?_⟩
  · rw [hexec, step3_of_no_tick hread]; rfl
  · rw [hexec, step3_of_tick hread, serveButtons]
    simp only [served_eq_serveButton, andThen_assoc]
    rfl

/-! ## Completion -/

section
variable {p : Params} {s t : State}

theorem serveButton_keeps_f (b : Button) (h : serveButton p b s = .next t) : t.f = s.f := by
  obtain ⟨-, rfl⟩ | ⟨-, u, hu, rfl⟩ := serveButton_cases h
  · rfl
  · exact (runGenOp_frame hu).f

theorem serveButtons_keeps_f (h : serveButtons p s = .next t) : t.f = s.f := by
  obtain ⟨u, v, hu, hv, ht⟩ := serveButtons_cases h
  rw [serveButton_keeps_f _ ht, serveButton_keeps_f _ hv, serveButton_keeps_f _ hu]

/-- `DSP.STEP` moves `PHASE` and clears the flag of its phase (R170 to R173). -/
theorem dspStep_phase_f (h : dspStep p s = .next t) :
    t.phase = (match s.phase with | .one => .two | .two => .three | .three => .one) ∧
    t.f = (match s.phase with
      | .one => { s.f with timer1Overflow := false }
      | .two => { s.f with stopGenerator := false }
      | .three => { s.f with readButtons := false }) := by
  obtain ⟨hphase, hf, rfl⟩ | ⟨hphase, -, -, rfl⟩ | ⟨hphase, -, -, u, hu, rfl⟩ | ⟨hphase, hf, rfl⟩ |
    ⟨hphase, -, u, hu, rfl⟩ | ⟨hphase, hf, rfl⟩ | ⟨hphase, -, u, hu, rfl⟩ := dspStep_cases h <;>
    rw [hphase]
  · exact ⟨rfl, by simp [← hf]⟩
  · exact ⟨rfl, rfl⟩
  · exact ⟨rfl, by simp [(genOvf_frame hu).f]⟩
  · exact ⟨rfl, by simp [← hf]⟩
  · exact ⟨rfl, by simp [(genStop_frame hu).f]⟩
  · exact ⟨rfl, by simp [← hf]⟩
  · exact ⟨rfl, serveButtons_keeps_f hu⟩

/-- Only phase 3 touches the button records. -/
theorem dspStep_keeps_bs (h : dspStep p s = .next t) (hphase : s.phase ≠ .three) :
    t.bs = s.bs := by
  obtain ⟨-, -, rfl⟩ | ⟨-, -, -, rfl⟩ | ⟨-, -, -, u, hu, rfl⟩ | ⟨-, -, rfl⟩ | ⟨-, -, u, hu, rfl⟩ |
    ⟨h3, -⟩ | ⟨h3, -⟩ := dspStep_cases h
  · rfl
  · rfl
  · exact (genOvf_frame hu).bs
  · rfl
  · exact (genStop_frame hu).bs
  · exact absurd h3 hphase
  · exact absurd h3 hphase

end

/-- Settles O36: completion is the invariant's, the rest the frames of what a step can do. -/
theorem dspStepCompletes : Obligations.DspStepCompletes := by
  intro s hs
  obtain ⟨t, ht, -⟩ := dspStep_keepsInv params s hs
  obtain ⟨hphase, hf⟩ := dspStep_phase_f ht
  obtain ⟨hpins, hevents, hbooted, -, -, -⟩ := dspStep_loopFrame ht
  obtain ⟨es, htrace, -⟩ := dspStep_traceExplained ht
  exact ⟨t, ht, hphase, hf, hpins, hevents, hbooted, dspStep_keeps_bs ht, es, htrace.symm⟩

/-! ## One loop iteration -/

section
variable {s t : State}

theorem exec_dspStep_halt (hphase : s.phase = .two) (hhalt : s.f.stopGenerator = true) :
    exec .dspStep s = .next
      { stopped s with phase := .three, f := { s.f with stopGenerator := false } } := by
  rw [(dspStepTwo s hphase).2 hhalt, genStopResult]
  rfl

/-- Steps 2 and 3 after a first step, with no halt pending. -/
theorem iteration_of_no_halt (h : exec .dspStep s = .next t) (hphase : t.phase = .two)
    (hhalt : t.f.stopGenerator = false) :
    iteration s = exec .dspStep { t with phase := .three } := by
  rw [iteration, h, andThen_next, (dspStepTwo t hphase).1 hhalt, andThen_next]

/-- Steps 2 and 3 after a first step, with a halt pending. -/
theorem iteration_of_halt (h : exec .dspStep s = .next t) (hphase : t.phase = .two)
    (hhalt : t.f.stopGenerator = true) :
    iteration s = exec .dspStep
      { stopped t with phase := .three, f := { t.f with stopGenerator := false } } := by
  rw [iteration, h, andThen_next, exec_dspStep_halt hphase hhalt, andThen_next]

/-- Without a callback the first step clears the overflow flag at most. -/
theorem exec_dspStep_no_callback (hphase : s.phase = .one)
    (h : s.f.timer1Overflow = false ∨ s.f.stopGenerator = true) :
    exec .dspStep s =
      .next { s with phase := .two, f := { s.f with timer1Overflow := false } } := by
  cases hovf : s.f.timer1Overflow with
  | false => rw [(dspStepOne s hphase).1 hovf, ← hovf]
  | true => exact (dspStepOne s hphase).2.1 hovf (h.resolve_left (by simp [hovf]))

theorem iteration_idle (hphase : s.phase = .one) (hovf : s.f.timer1Overflow = false)
    (hhalt : s.f.stopGenerator = false) :
    iteration s = exec .dspStep { s with phase := .three } :=
  iteration_of_no_halt (t := { s with phase := .two }) ((dspStepOne s hphase).1 hovf) rfl hhalt

/-- A halt is served in step 2; an overflow beside it gets no callback. -/
theorem iteration_with_halt (hphase : s.phase = .one) (hhalt : s.f.stopGenerator = true)
    {b : Bool} (hread : s.f.readButtons = b) :
    iteration s = exec .dspStep { stopped s with
      phase := .three
      f := { readButtons := b, stopGenerator := false, timer1Overflow := false } } := by
  subst hread
  exact iteration_of_halt (exec_dspStep_no_callback hphase (.inr hhalt)) rfl hhalt

/-- An overflow alone runs its callback in step 1. -/
theorem iteration_with_overflow (hphase : s.phase = .one) (hovf : s.f.timer1Overflow = true)
    (hhalt : s.f.stopGenerator = false) {b : Bool} (hread : s.f.readButtons = b)
    (ht : exec .genOvf s = .next t) :
    iteration s = exec .dspStep { t with
      phase := .three
      f := { readButtons := b, stopGenerator := false, timer1Overflow := false } } := by
  have hf : t.f = s.f := (genOvf_frame ht).f
  have hone : exec .dspStep s = .next { t with
      phase := .two
      f := { readButtons := b, stopGenerator := false, timer1Overflow := false } } := by
    rw [(dspStepOne s hphase).2.2 hovf hhalt, ht, andThen_next]
    simp only [hf, hread, hhalt]
  exact iteration_of_no_halt hone rfl rfl

/-- Step 3 with no flag left leads back to phase 1. -/
theorem exec_dspStep_three_idle (hphase : s.phase = .one) :
    exec .dspStep { s with
      phase := .three
      f := { readButtons := false, stopGenerator := false, timer1Overflow := false } } =
      .next (flagsCleared s) := by
  rw [(dspStepThree _ rfl).1 rfl, flagsCleared, ← hphase]

end

/-- Settles O37: steps 1 and 2 serve an overflow or a halt, and step 3 follows with the button flag
as it was. -/
theorem iterationTable : Obligations.IterationTable := by
  intro s hphase
  refine ⟨fun hovf hhalt hread => ?_, fun hovf hhalt _ => iteration_idle hphase hovf hhalt,
    fun hhalt hread => ?_, fun hhalt hread => iteration_with_halt hphase hhalt hread,
    fun hovf hhalt hread u hu => ?_,
    fun hovf hhalt hread u hu => iteration_with_overflow hphase hovf hhalt hread hu⟩
  · rw [iteration_idle hphase hovf hhalt, (dspStepThree { s with phase := .three } rfl).1 hread,
      ← hphase]
  · rw [iteration_with_halt hphase hhalt hread]
    exact exec_dspStep_three_idle (s := stopped s) hphase
  · have hone : u.phase = .one := (genOvf_frame hu).phase.trans hphase
    rw [iteration_with_overflow hphase hovf hhalt hread hu]
    exact exec_dspStep_three_idle hone

/-- Settles O42: the halt sets the flag that the next step 2 serves. -/
theorem haltThenStepTwo : Obligations.HaltThenStepTwo := by
  intro s hphase
  rw [irqHaltResult, andThen_next, exec_dspStep_halt (by exact hphase) rfl]
  exact ⟨_, rfl, rfl, rfl, rfl, rfl, rfl, rfl, rfl, rfl, rfl, rfl, List.append_assoc _ _ _⟩

end Sys2Proof.Machine
end

section
/-! PROOFS about steps and runs: what a step makes of each kind of next event (O53 to O57), when it
goes on (O51), and the same for sequences of events (O59, O60). -/

namespace Sys2Proof.Machine

open Sys2Proof.Expected

/-! ## The step by the kind of the next event -/

section
variable {s : State} {w : Byte} {i : Instr} {rest : List Event}

theorem step_of_reset (h : s.events = .reset :: rest) :
    step s = .next (resetEvent (s.setEvents rest)) := by
  simp only [step, fetch, h]

theorem step_of_free (h : s.events = []) :
    step s = andThen (exec (freeRunning s) s) fun t => .next (afterInstr (freeRunning s) t) := by
  simp only [step, fetch, h]

theorem step_of_word (h : s.events = .word w :: rest) (hd : decodeWord w = .ok i)
    (ha : admitted i s = true) :
    step s = andThen (exec i (s.setEvents rest)) fun t => .next (afterInstr i t) := by
  have ha' : admitted i (s.setEvents rest) = true := ha
  simp only [step, fetch, h, fetchWord, decode_one, hd, ha', if_true]

theorem step_of_early_word (h : s.events = .word w :: rest) (hd : decodeWord w = .ok i)
    (ha : admitted i s = false) : step s = .refused (.beforeBoot w) := by
  have ha' : admitted i (s.setEvents rest) = false := ha
  simp [step, fetch, h, fetchWord, decode_one, hd, ha']

theorem step_of_rejected_word (h : s.events = .word w :: rest) {e : Reject}
    (hd : decodeWord w = .error e) : step s = .refused (.reservedWord w) := by
  simp only [step, fetch, h, fetchWord, decode_one, hd]

theorem admitted_iff : admitted i s = true ↔ (agentOf i ≠ .loop → s.booted = true) := by
  simp [admitted, imp_iff_not_or]

/-- The LOOP agent's own words are always admitted. -/
theorem admitted_freeRunning (s t : State) : admitted (freeRunning s) t = true := by
  unfold freeRunning
  split <;> rfl

end

/-- Settles O53: an admitted word runs between the two writes of the model's own fields. -/
theorem stepRunsDecodedWord : Obligations.StepRunsDecodedWord := by
  intro w i rest s hevents hd hboot
  rw [step_of_word hevents hd (admitted_iff.2 hboot)]
  simp only [afterInstr_eq]
  rfl

/-- Settles O54: the free-running word is always admitted, so presenting it changes nothing. -/
theorem loopRunsFree : Obligations.LoopRunsFree := by
  intro s hevents
  refine ⟨fun hboot => ?_, fun hboot => ?_, ?_⟩
  · have hfree : freeRunning s = .genInit := by simp [freeRunning, hboot]
    rw [step_of_free hevents, hfree, genInitResult]
    rfl
  · have hfree : freeRunning s = .dspStep := by simp [freeRunning, hboot]
    rw [step_of_free hevents, hfree]
    cases exec .dspStep s <;> rfl
  · have hone := step_of_word (s := s.setEvents (.word (encode (freeRunning s)) :: s.events)) rfl
      (decodeWord_encode _) (admitted_freeRunning s _)
    exact (step_of_free hevents).trans hone.symm

/-- Settles O55: the decoder's rejection and the admission, each by its name. -/
theorem stepRefusals : Obligations.StepRefusals := by
  intro w rest s hevents
  refine ⟨fun hres => ?_, fun i hd hagent hboot => ?_⟩
  · exact step_of_rejected_word hevents ((reservedWordsRejected w).1.2 hres)
  · refine step_of_early_word hevents hd ?_
    rw [← Bool.not_eq_true, admitted_iff]
    simp [hagent, hboot]

/-- Settles O56: the reset event takes its place in the list and writes the reset values. -/
theorem resetEventResult : Obligations.ResetEventResult := fun _ _ => step_of_reset

/-- Settles O57: the reset event, and `GEN.INIT` from the reset state. -/
theorem bootState : Obligations.BootState := by
  intro rest s hevents
  have hinit := stepRunsDecodedWord (encode .genInit) .genInit rest
    (resetEvent (s.setEvents (wordEvent .genInit :: rest))) rfl (decodeWord_encode _)
    (fun h => absurd rfl h)
  rw [genInitResult] at hinit
  exact ⟨_, _, step_of_reset hevents, hinit, rfl, rfl, rfl, rfl, rfl, rfl, rfl, rfl, rfl, rfl, rfl,
    rfl⟩

/-! ## When the machine goes on -/

section
variable {s : State} {i : Instr}

theorem exec_buttonWord_completes (hi : isButtonWord i = true) : ∃ t, exec i s = .next t := by
  cases i with
  | btnUpdate | btnClrP | btnClrC | btnClrL => exact ⟨_, rfl⟩
  | _ => cases hi

/-- In a state of the block a word completes, unless it is a disabled overflow interrupt. -/
theorem exec_completes (hs : BlockInv params s) (hirq : i = .irqOvf → s.hal.ovfIrqEn = true) :
    ∃ t, exec i s = .next t := by
  by_cases hi : agentOf i = .loop
  · obtain hbutton | hgen | rfl := loopWord_cases hi
    · exact exec_buttonWord_completes hbutton
    · obtain ⟨op, hop⟩ := exec_genWord_eq_runGenOp hgen
      obtain ⟨t, ht, -⟩ := runGenOp_keepsInv params op s hs
      exact ⟨t, hop ▸ ht⟩
    · obtain ⟨t, ht, -⟩ := dspStep_keepsInv params s hs
      exact ⟨t, ht⟩
  · cases i with
    | irqTick | pinSet => exact ⟨_, rfl⟩
    | irqOvf => exact ⟨_, exec_irqOvf_enabled (hirq rfl)⟩
    | irqHalt => exact ⟨_, irqHaltResult s⟩
    | _ => exact absurd rfl hi

/-- A word may occur where it is admitted and, if it is the overflow interrupt, enabled. -/
theorem instrEnabled_iff :
    instrEnabled i s = true ↔ admitted i s = true ∧ (i = .irqOvf → s.hal.ovfIrqEn = true) := by
  cases i <;> simp [instrEnabled, admitted, agentOf]

/-- An instruction followed by a note goes on where the instruction does. -/
theorem andThen_completes_iff {o : Result} {f : State → State} :
    (∃ t, andThen o (fun u => .next (f u)) = .next t) ↔ ∃ u, o = .next u := by
  constructor
  · rintro ⟨t, ht⟩
    obtain ⟨u, hu, -⟩ := andThen_eq_next.1 ht
    exact ⟨u, hu⟩
  · rintro ⟨u, rfl⟩
    exact ⟨_, rfl⟩

theorem exec_completes_iff (hs : BlockInv params s) :
    (∃ t, exec i s = .next t) ↔ (i = .irqOvf → s.hal.ovfIrqEn = true) := by
  refine ⟨?_, exec_completes hs⟩
  rintro ⟨t, ht⟩ rfl
  by_contra hirq
  rw [exec_irqOvf_disabled (Bool.not_eq_true _ ▸ hirq)] at ht
  cases ht

theorem freeRunning_ne_irqOvf (s : State) : freeRunning s ≠ .irqOvf := by
  unfold freeRunning
  split <;> simp

/-- A presented word has its step exactly when it may occur. -/
theorem stepSafe_word_iff {w : Byte} {rest : List Event} (hs : BlockInv params s)
    (hevents : s.events = .word w :: rest) :
    StepSafe s ↔ eventEnabled (.word w) s = true := by
  simp only [StepSafe, eventEnabled]
  cases hd : decodeWord w with
  | error e => simp [step_of_rejected_word hevents hd]
  | ok i =>
    cases ha : admitted i s with
    | false => simp [step_of_early_word hevents hd ha, instrEnabled_iff, ha]
    | true =>
      have htaken : BlockInv params (s.setEvents rest) := hs.of_unread rfl
      simp only [step_of_word hevents hd ha, andThen_completes_iff, exec_completes_iff htaken,
        instrEnabled_iff, ha, true_and, State.setEvents_hal]

end

/-- Settles O51: the reset and the free-running loop always go on, a word where it may occur. -/
theorem stepSafeIffEnabled : Obligations.StepSafeIffEnabled := by
  intro s hs
  cases hevents : s.events with
  | nil =>
    have hfree := exec_completes hs fun h => absurd h (freeRunning_ne_irqOvf s)
    have hsafe : StepSafe s := by
      rw [StepSafe, step_of_free hevents]
      exact andThen_completes_iff.2 hfree
    simp [nextEnabled, hevents, hsafe]
  | cons e rest =>
    have hnext : nextEnabled s = eventEnabled e s := by rw [nextEnabled, hevents]
    rw [hnext]
    cases e with
    | reset => exact ⟨fun _ => rfl, fun _ => ⟨_, step_of_reset hevents⟩⟩
    | word w => exact stepSafe_word_iff hs hevents

/-! ## Sequences of events -/

/-- Whether an event may occur does not depend on the events to come. -/
theorem eventEnabled_setEvents (e : Event) (s : State) (es : List Event) :
    eventEnabled e (s.setEvents es) = eventEnabled e s := by
  cases e with
  | reset => rfl
  | word w =>
    simp only [eventEnabled]
    cases decodeWord w with
    | error _ => rfl
    | ok i => cases i <;> rfl

/-- From a state of the block an event has its step exactly when it may occur. -/
theorem takeEvent_completes_iff {s : State} (hs : BlockInv params s) (e : Event) :
    (∃ t, takeEvent e s = .next t) ↔ eventEnabled e s = true := by
  have hpresented : BlockInv params (s.setEvents (e :: s.events)) := hs.of_unread rfl
  rw [← eventEnabled_setEvents e s (e :: s.events)]
  exact stepSafeIffEnabled _ hpresented

/-- Settles O59: event by event, each from a state of the block. -/
theorem runIffEnabled : Obligations.RunIffEnabled := by
  intro r s hs
  refine ⟨fun hrun n e t he ht => ?_, fun henabled n => ?_⟩
  · obtain ⟨u, hu⟩ := hrun (n + 1)
    rw [afterEvents_succ, ht, andThen_next, he] at hu
    obtain ⟨v, hv, -⟩ := andThen_eq_next.1 hu
    exact (takeEvent_completes_iff (runKeepsInvariant r n s t hs ht) e).1 ⟨v, hv⟩
  · induction n with
    | zero => exact ⟨s, by cases r <;> rfl⟩
    | succ n ih =>
      obtain ⟨t, ht⟩ := ih
      rw [afterEvents_succ, ht, andThen_next]
      cases he : r.at? n with
      | none => exact ⟨t, rfl⟩
      | some e =>
        obtain ⟨u, hu⟩ := (takeEvent_completes_iff (runKeepsInvariant r n s t hs ht) e).2
          (henabled n e t he ht)
        exact ⟨u, by rw [Option.toList_some, takeEvents_cons, hu, andThen_next, takeEvents_nil]⟩

/-! ## Events presented beforehand -/

theorem afterInstr_setEvents (i : Instr) (s : State) (es : List Event) :
    afterInstr i (s.setEvents es) = (afterInstr i s).setEvents es := by
  rw [afterInstr_eq, afterInstr_eq]
  rfl

/-- A step at a presented event neither reads nor writes the events after it. -/
theorem step_setEvents_cons {s : State} {e : Event} {es : List Event} (h : s.events = e :: es)
    (fs : List Event) : step (s.setEvents (e :: fs)) = withEvents fs (step s) := by
  have h' : (s.setEvents (e :: fs)).events = e :: fs := rfl
  cases e with
  | reset => rw [step_of_reset h, step_of_reset h']; rfl
  | word w =>
    cases hd : decodeWord w with
    | error e => rw [step_of_rejected_word h hd, step_of_rejected_word h' hd]; rfl
    | ok i =>
      cases ha : admitted i s with
      | false => rw [step_of_early_word h hd ha, step_of_early_word h' hd ha]; rfl
      | true =>
        have hword : IgnoresEvents fun t => andThen (exec i t) fun u => .next (afterInstr i u) :=
          (exec_ignoresEvents i).andThen (ignoresEvents_next (afterInstr_setEvents i))
        rw [step_of_word h hd ha, step_of_word h' hd ha]
        exact hword (s.setEvents es) fs

/-- The step takes the presented event and leaves the later ones. -/
theorem step_events {s t : State} {e : Event} {es : List Event} (h : s.events = e :: es)
    (ht : step s = .next t) : t.events = es := by
  have hsame : step s = withEvents es (step s) := by
    rw [← step_setEvents_cons h es, ← h]
    rfl
  rw [ht, withEvents] at hsame
  exact congrArg State.events (Host.Outcome.next.inj hsame)

/-- Settles O60: with its event presented, the step does what taking the event does, up to the
events to come, which no later step reads out of turn. -/
theorem stepsTakePresentedEvents : Obligations.StepsTakePresentedEvents := by
  intro es rest s hevents
  induction es generalizing s with
  | nil => rw [List.nil_append] at hevents; rw [← hevents]; rfl
  | cons e es ih =>
    have htake : takeEvent e { s with events := rest } = withEvents rest (step s) :=
      step_setEvents_cons hevents rest
    rw [List.length_cons, steps_succ, takeEvents_cons, htake]
    cases hs : step s with
    | next t => exact ih t (step_events hevents hs)
    | fault r => rfl
    | refused r => rfl

end Sys2Proof.Machine
end
